-- ==== Sys2Proof/Word.lean ====
section
/-! DEFINITION. The widths of the values of the block (spec 00_scope.md R11, R12: every value is unsigned). -/

namespace Sys2Proof

/-- One octet: an input byte or a character of encoded text (R12). -/
abbrev Octet := BitVec 8

/-- A 6-bit value, 0 to 63 (00_scope.md, glossary). -/
abbrev Sextet := BitVec 6

/-- A register of the register window (10_state.md R31). -/
abbrev Word := BitVec 32

end Sys2Proof
end

