-- ==== Sys2Proof/Config.lean ====
section
/-! DEFINITION. What one implementation fixes (spec 00_scope.md R9) and the one free value the spec leaves open. -/

namespace Sys2Proof

/-- The implementation parameters of 00_scope.md R9. `bufMax` is a 32-bit value, so R9's `BUF_MAX < 2^32` holds by
its type; `Params.wf` is the other half of the constraint. -/
structure Params where
  bufMax        : Word
  defaultEncBuf : Word
  defaultDecBuf : Word
  deriving DecidableEq, Repr

namespace Params

/-- R9: `BUF_MAX >= 4`. -/
def wf (p : Params) : Bool := decide (4 ≤ p.bufMax.toNat)

/-- The defaults of R9's table (the spec's choice: D10). -/
def default : Params := ⟨4096#32, 3072#32, 4096#32⟩

/-- The capacity of BUF in octets (R9, 20_memory.md R48). -/
def bufSize (p : Params) : Nat := p.bufMax.toNat

/-- `OBUF_MAX = floor(BUF_MAX / 3) * 4` (R9). -/
def obufSize (p : Params) : Nat := p.bufMax.toNat / 3 * 4

end Params

/-- FREE VALUE (log entry 9): the sextet that stands for a character outside the alphabet when DEC0, DEC1 or DEC2 is
given one directly. 42_decoder.md R106 to R108 make `REV[ci] <= 0x3F` a precondition and state no result without it.
Nothing constrains it. -/
opaque Config.freeSextet : Nat → Sextet

end Sys2Proof
end

