-- ==== Sys2Proof/Syntax.lean ====
section
/-! DEFINITION. The transactions of the block: one constructor of `Instr` per row of spec/opcode_table.json. -/

namespace Sys2Proof

/-- The sixteen words of the register window, named (10_state.md R31). -/
inductive Reg where
  | cmd | ctrl | status | reqBufEnc | reqBufDec | effBuf | errCode | errChar
  | errPos | errLen | inCount | outCount | chunkCount | param | rsvd38 | rsvd3C
  deriving DecidableEq, Repr

/-- One constructor per row of the opcode table. Where the encoding has bits that the rule ignores (WDATA of a read:
R67; DATA of SRC_EOF and SRC_ERR: R68) the constructor carries them, so that no bit of a word is dropped.
A group operation carries the operand word of 30_encoding.md R71: 24 bits for encode, 32 for decode. -/
inductive Instr where
  /-- CMD 0x1 (44_host_interface.md R146) -/
  | startEncode
  /-- CMD 0x2 (R147) -/
  | startDecode
  /-- CMD 0x3 (R148) -/
  | clear
  /-- BUS, WE = 0 (R143) -/
  | regRead (r : Reg) (wdata : Word)
  /-- BUS, WE = 1 (R144) -/
  | regWrite (r : Reg) (wdata : Word)
  /-- SRC, KIND = 00 (43_stream_adapter.md R123) -/
  | srcData (data : Octet)
  /-- SRC, KIND = 01 (R124) -/
  | srcEof (data : Octet)
  /-- SRC, KIND = 10 (R125) -/
  | srcErr (data : Octet)
  /-- SNK, RESP = 01 (R129) -/
  | snkAck
  /-- SNK, RESP = 10 (R130) -/
  | snkErr
  /-- GOP 000 (41_encoder.md R89) -/
  | enc3 (operand : BitVec 24)
  /-- GOP 001 (R90) -/
  | enc2 (operand : BitVec 24)
  /-- GOP 010 (R91) -/
  | enc1 (operand : BitVec 24)
  /-- GOP 100 (42_decoder.md R106) -/
  | dec0 (operand : BitVec 32)
  /-- GOP 101 (R107) -/
  | dec1 (operand : BitVec 32)
  /-- GOP 110 (R108) -/
  | dec2 (operand : BitVec 32)
  deriving DecidableEq, Repr

end Sys2Proof
end

