-- ==== Sys2Proof/WellFormed.lean ====
section
/-! DEFINITION. Which instructions are the one name of their words. Every other check of an encoding (offset, KIND,
RESP, reserved GOP) is made by the decoder, which turns the field into a constructor or refuses it. -/

namespace Sys2Proof

/-- 30_encoding.md R65: "A word is a valid command only if it equals one of these three values exactly." -/
def isCommandWord (w : Word) : Bool := w == 1#32 || w == 2#32 || w == 3#32

/-- A write of a legal command word to CMD is the command itself (R76: "The CMD format is the WDATA of a BUS write to
offset 0x00"), so that `regWrite .cmd w` is the name of its words only where `w` is no command (log entry 12). -/
def Instr.wellFormed (i : Instr) : Bool :=
  match i with
  | .regWrite .cmd w => !isCommandWord w
  | .regWrite _ _ => true
  | .startEncode | .startDecode | .clear | .regRead _ _ => true
  | .srcData _ | .srcEof _ | .srcErr _ | .snkAck | .snkErr => true
  | .enc3 _ | .enc2 _ | .enc1 _ | .dec0 _ | .dec1 _ | .dec2 _ => true

end Sys2Proof
end

