-- ==== Sys2Proof/Decode.lean ====
section
/-! DEFINITION. The decoder of port words, total and rejecting by name, then the encoder (spec 30_encoding.md). -/

namespace Sys2Proof

/-- What one port carries in one transaction (R63, R76: "A decoder tells every transaction apart by the port it arrives
on"). The operand word of a GOP is 32 bits wide on the line; an encode operand is its low 24 bits (R71, log entry 8). -/
inductive PortWord where
  | bus (w : BitVec 41)
  | src (w : BitVec 10)
  | snk (w : BitVec 2)
  | gop (sel : BitVec 3) (operand : BitVec 32)
  deriving DecidableEq, Repr

/-- Why a word is no transaction. Each is an input "the environment is assumed never to send" (R15, R69, R70, R72);
the spec asks the model to refuse it (log entry 17). -/
inductive WordError where
  /-- BUS, OFFSET not a multiple of 4 (R70) -/
  | busMisaligned
  /-- BUS, OFFSET 0x40 or more (R70) -/
  | busOutOfWindow
  /-- SRC, KIND = 11 (R69) -/
  | srcKindReserved
  /-- SNK, RESP = 00 or 11 (R69) -/
  | snkRespReserved
  /-- GOP 011 or 111 (R72) -/
  | gopReserved
  deriving DecidableEq, Repr

/-! ## BUS and CMD (R64 to R67) -/

/-- The byte offset of each register (10_state.md R31). -/
def Reg.offset : Reg → BitVec 8
  | .cmd => 0x00#8 | .ctrl => 0x04#8 | .status => 0x08#8 | .reqBufEnc => 0x0C#8
  | .reqBufDec => 0x10#8 | .effBuf => 0x14#8 | .errCode => 0x18#8 | .errChar => 0x1C#8
  | .errPos => 0x20#8 | .errLen => 0x24#8 | .inCount => 0x28#8 | .outCount => 0x2C#8
  | .chunkCount => 0x30#8 | .param => 0x34#8 | .rsvd38 => 0x38#8 | .rsvd3C => 0x3C#8

/-- The register at a byte offset, R70's two refusals otherwise. -/
def regAt (off : BitVec 8) : Except WordError Reg :=
  match off.toNat with
  | 0x00 => .ok .cmd | 0x04 => .ok .ctrl | 0x08 => .ok .status | 0x0C => .ok .reqBufEnc
  | 0x10 => .ok .reqBufDec | 0x14 => .ok .effBuf | 0x18 => .ok .errCode | 0x1C => .ok .errChar
  | 0x20 => .ok .errPos | 0x24 => .ok .errLen | 0x28 => .ok .inCount | 0x2C => .ok .outCount
  | 0x30 => .ok .chunkCount | 0x34 => .ok .param | 0x38 => .ok .rsvd38 | 0x3C => .ok .rsvd3C
  | n => if n % 4 = 0 then .error .busOutOfWindow else .error .busMisaligned

/-- The CMD opcodes (R65). -/
def decodeCmd (w : Word) : Option Instr :=
  if w = 1#32 then some .startEncode
  else if w = 2#32 then some .startDecode
  else if w = 3#32 then some .clear
  else none

/-- `WE ‖ OFFSET[7:0] ‖ WDATA[31:0]` (R67). -/
def busWord (we : Bool) (off : BitVec 8) (wdata : Word) : BitVec 41 := BitVec.ofBool we ++ off ++ wdata

def decodeBus (w : BitVec 41) : Except WordError Instr :=
  let wdata : Word := w.extractLsb' 0 32
  match regAt (w.extractLsb' 32 8) with
  | .error e => .error e
  | .ok r =>
    if w.getLsbD 40 then
      match r, decodeCmd wdata with
      | .cmd, some i => .ok i
      | _, _ => .ok (.regWrite r wdata)
    else .ok (.regRead r wdata)

/-! ## SRC and SNK (R68, R69) -/

/-- `KIND[1:0] ‖ DATA[7:0]` (R68). -/
def srcWord (kind : BitVec 2) (data : Octet) : BitVec 10 := kind ++ data

def decodeSrc (w : BitVec 10) : Except WordError Instr :=
  let data : Octet := w.extractLsb' 0 8
  match (w.extractLsb' 8 2).toNat with
  | 0 => .ok (.srcData data)
  | 1 => .ok (.srcEof data)
  | 2 => .ok (.srcErr data)
  | _ => .error .srcKindReserved

def decodeSnk (w : BitVec 2) : Except WordError Instr :=
  match w.toNat with
  | 1 => .ok .snkAck
  | 2 => .ok .snkErr
  | _ => .error .snkRespReserved

/-! ## GOP (R71, R72) -/

def decodeGop (sel : BitVec 3) (operand : BitVec 32) : Except WordError Instr :=
  match sel.toNat with
  | 0 => .ok (.enc3 (operand.extractLsb' 0 24))
  | 1 => .ok (.enc2 (operand.extractLsb' 0 24))
  | 2 => .ok (.enc1 (operand.extractLsb' 0 24))
  | 4 => .ok (.dec0 operand)
  | 5 => .ok (.dec1 operand)
  | 6 => .ok (.dec2 operand)
  | _ => .error .gopReserved

/-- The decoder: the port tells the format (R76). -/
def decode : PortWord → Except WordError Instr
  | .bus w => decodeBus w
  | .src w => decodeSrc w
  | .snk w => decodeSnk w
  | .gop sel operand => decodeGop sel operand

/-! ## The encoder -/

/-- The word of an instruction, from the same tables. A command is a BUS write to offset 0 (R76, R78). -/
def encode : Instr → PortWord
  | .startEncode => .bus (busWord true 0x00#8 1#32)
  | .startDecode => .bus (busWord true 0x00#8 2#32)
  | .clear => .bus (busWord true 0x00#8 3#32)
  | .regRead r wdata => .bus (busWord false r.offset wdata)
  | .regWrite r wdata => .bus (busWord true r.offset wdata)
  | .srcData data => .src (srcWord 0b00#2 data)
  | .srcEof data => .src (srcWord 0b01#2 data)
  | .srcErr data => .src (srcWord 0b10#2 data)
  | .snkAck => .snk 0b01#2
  | .snkErr => .snk 0b10#2
  | .enc3 operand => .gop 0b000#3 (operand.setWidth 32)
  | .enc2 operand => .gop 0b001#3 (operand.setWidth 32)
  | .enc1 operand => .gop 0b010#3 (operand.setWidth 32)
  | .dec0 operand => .gop 0b100#3 operand
  | .dec1 operand => .gop 0b101#3 operand
  | .dec2 operand => .gop 0b110#3 operand

/-! ## The host's view of a word of the opcode table -/

/-- The port word that stands for the table's word `w` of `nbits` bits (log entry 13). The width tells the format:
32 CMD, 41 or 48 BUS, 10 or 16 SRC, 2 SNK, 3 GOP. Eight bits are a SNK response where the value is 1 or 2 and a GOP
select otherwise. A GOP's operand word is all zeros. -/
def portWordOf (nbits w : Nat) : Option PortWord :=
  if nbits = 32 then
    if w < 2 ^ 32 then some (.bus (busWord true 0x00#8 (BitVec.ofNat 32 w))) else none
  else if nbits = 41 ∨ nbits = 48 then
    if w < 2 ^ 41 then some (.bus (BitVec.ofNat 41 w)) else none
  else if nbits = 10 ∨ nbits = 16 then
    if w < 2 ^ 10 then some (.src (BitVec.ofNat 10 w)) else none
  else if nbits = 2 ∨ (nbits = 8 ∧ (w = 1 ∨ w = 2)) then
    if w < 2 ^ 2 then some (.snk (BitVec.ofNat 2 w)) else none
  else if nbits = 3 ∨ nbits = 8 then
    if w < 2 ^ 3 then some (.gop (BitVec.ofNat 3 w) 0#32) else none
  else none

/-- The instruction the decoder reads from a word numbered as spec/opcode_table.json numbers it. -/
def decodeTableWord (nbits w : Nat) : Option Instr :=
  match portWordOf nbits w with
  | some p => (decode p).toOption
  | none => none

end Sys2Proof
end

