-- ==== Sys2Proof/Machine/Rom.lean ====
section
/-! DEFINITION. The contents of the two lookup ROMs and the padding character (spec 40_lookup_tables.md). -/

namespace Sys2Proof.Machine

/-- The forward ROM: 64 octets, indexed by a sextet (R79). -/
abbrev FwdRom := Vector Octet 64

/-- The reverse ROM: 256 octets, indexed by a character (R83). -/
abbrev RevRom := Vector Octet 256

/-- The padding character `=` (R82). -/
def padChar : Octet := 0x3D#8

/-- "Newline" is LF only (42_decoder.md R99). -/
def lineFeed : Octet := 0x0A#8

/-- The REV entry of the padding character (R83). -/
def revPad : Octet := 0x40#8

/-- The REV entry of a character that is neither in the alphabet nor the padding character (R83). -/
def revInv : Octet := 0x80#8

/-- R79's closed form of the alphabet. -/
def alphabetChar (s : Nat) : Octet :=
  if s ≤ 25 then BitVec.ofNat 8 (0x41 + s)
  else if s ≤ 51 then BitVec.ofNat 8 (0x61 + (s - 26))
  else if s ≤ 61 then BitVec.ofNat 8 (0x30 + (s - 52))
  else if s = 62 then 0x2B#8
  else 0x2F#8

/-- FWD (R79; log entry 11). -/
def alphabet : FwdRom := ⟨⟨(List.range 64).map alphabetChar⟩, by simp⟩

/-- The first position from `i` on at which `c` stands in a list. -/
def indexFrom (c : Octet) : Nat → List Octet → Option Nat
  | _, [] => none
  | i, x :: xs => if x = c then some i else indexFrom c (i + 1) xs

/-- R84: the entry of REV for the character `c`, derived from the contents of a forward ROM. -/
def revEntry (fwd : FwdRom) (c : Octet) : Octet :=
  match indexFrom c 0 fwd.toList with
  | some s => BitVec.ofNat 8 s
  | none => if c = padChar then revPad else revInv

/-- R84: the reverse ROM that belongs to a forward ROM. -/
def revOf (fwd : FwdRom) : RevRom := ⟨⟨(List.range 256).map fun c => revEntry fwd (BitVec.ofNat 8 c)⟩, by simp⟩

/-- REV with the standard alphabet. -/
def reverseAlphabet : RevRom := revOf alphabet

end Sys2Proof.Machine
end

