-- ==== Sys2Proof/Machine/State.lean ====
section
/-! DEFINITION. The state of the block (spec 10_state.md R16), the environment's pending moves, the reasons a step can
stop, and the state after reset (R45). -/

namespace Sys2Proof.Machine

/-- The adapter's sequencer state (10_state.md R19). -/
inductive AdapterState where
  | idle | fill | process | drain | done | error
  deriving DecidableEq, Repr

/-- The mode of the current or last transcode (R20). -/
inductive Mode where
  | encode | decode
  deriving DecidableEq, Repr

/-- Who takes the next step (00_scope.md R14, 43_stream_adapter.md R122; log entry 1). `groupSelect` is the internal GOP
line exposed as an input (log entry 8), `resetLine` the external reset (70_reset_and_hazards.md R179). -/
inductive Agent where
  | host | source | sink | adapter | groupSelect | resetLine
  deriving DecidableEq, Repr

/-- BUF or OBUF: (address, octet) pairs, addresses strictly rising; an unlisted octet has no value (log entry 4). -/
abbrev Memory := List Host.Cell

/-- The outside world as the model holds it: whose move is next, what each port still has to offer (oldest first), and
what the block has given out. None of it is the spec's own state (R16); log entries 1, 6, 7 and 8. -/
structure Env where
  /-- whose move is next, the head first -/
  turns     : List Agent
  /-- the host's register accesses to come -/
  busQ      : List (BitVec 41)
  /-- the beats the source offers; the head is the pending one (30_encoding.md R68) -/
  srcQ      : List (BitVec 10)
  /-- the sink's responses to come -/
  snkQ      : List (BitVec 2)
  /-- the group selects to come, each with its operand word -/
  gopQ      : List (BitVec 3 × BitVec 32)
  /-- RDATA of the last REG_READ (R67) -/
  rdata     : Word
  /-- the octets the sink has accepted, oldest first (R134) -/
  delivered : List Octet
  /-- the result of the last group operation issued on the exposed select -/
  gopOut    : List Octet
  deriving DecidableEq, Repr

/-- The state of the block: the tuple of R16 under its own names, the parameters of the instance (R9), the
environment, and the counter of free values. -/
structure State where
  /-- the implementation parameters; no step changes them (log entry 10) -/
  params     : Params
  /-- STATE (R19) -/
  state      : AdapterState
  /-- MODE (R20) -/
  mode       : Mode
  /-- EFF (R21) -/
  eff        : Word
  /-- BUF (R22) -/
  buf        : Memory
  /-- CNT (R22) -/
  cnt        : Nat
  /-- EOF_SEEN (R23) -/
  eofSeen    : Bool
  /-- OBUF (R24) -/
  obuf       : Memory
  /-- OCNT (R24) -/
  ocnt       : Nat
  /-- OPTR (R24) -/
  optr       : Nat
  /-- IN_COUNT (R25) -/
  inCount    : Word
  /-- OUT_COUNT (R25) -/
  outCount   : Word
  /-- CHUNK_COUNT (R25) -/
  chunkCount : Word
  /-- ERR_CODE (R26) -/
  errCode    : BitVec 4
  /-- ERR_CHAR (R26) -/
  errChar    : Octet
  /-- ERR_POS (R26) -/
  errPos     : Word
  /-- ERR_LEN (R26) -/
  errLen     : Word
  /-- IE (R27) -/
  ie         : Bool
  /-- CMD_REJ (R28) -/
  cmdRej     : Bool
  /-- REQ_BUF_ENC (R29) -/
  reqBufEnc  : Word
  /-- REQ_BUF_DEC (R29) -/
  reqBufDec  : Word
  /-- the FWD ROM (R30); no step changes it -/
  fwd        : FwdRom
  /-- the REV ROM (R30); no step changes it -/
  rev        : RevRom
  /-- the outside world -/
  env        : Env
  /-- MODEL'S OWN: numbers the free values used so far (log entry 9) -/
  freeCount  : Nat
  deriving DecidableEq, Repr

/-- Why one access to a buffer has no meaning. -/
inductive MemFault where
  /-- the address is at or beyond the buffer's size (20_memory.md R48); raised by reads and writes; safe -/
  | noSuchAddress
  /-- nothing has written the octet (10_state.md R22, R24: "holds no defined value"); raised by reads; safe -/
  | neverWritten
  deriving DecidableEq, Repr

/-- The model's faults. The spec has none of its own (R15: an architected error is a next state); both are raised only in
states that break the invariants of R47. -/
inductive Fault where
  /-- an access to BUF (raised by SRC_DATA and PROC); safe: the machine stops (log entries 4 and 5) -/
  | buf (why : MemFault)
  /-- an access to OBUF (raised by PROC and SNK_ACK); safe: the machine stops (log entries 4 and 5) -/
  | obuf (why : MemFault)
  deriving DecidableEq, Repr

/-- The model's refusals (R15: "a protocol violation that this spec gives no meaning"). -/
inductive Refusal where
  /-- an instruction without a meaning in this model; raised by exec's arms; safe -/
  | notModelled (mnemonic : String)
  /-- a port word that is no transaction (R69, R70, R72); raised by fetch. Unsafe only as the spec says: it assumes the
  environment never sends one (93_implementation_defined.md X5 to X7, X9; log entry 17) -/
  | badWord (why : WordError)
  /-- a SNK response while STATE is not DRAIN (R69); raised by SNK_ACK and SNK_ERR. Unsafe only as the spec says
  (X7; log entry 17) -/
  | sinkOutsideDrain
  deriving DecidableEq, Repr

/-- An environment with nothing pending and nothing given out yet (log entries 1, 6, 7, 8). -/
def Env.empty : Env :=
  { turns := [], busQ := [], srcQ := [], snkQ := [], gopQ := [], rdata := 0#32, delivered := [], gopOut := [] }

/-- The machine right after reset (R45, 70_reset_and_hazards.md R179) with the default parameters of R9. -/
def State.reset : State :=
  { params := Params.default
    state := .idle, mode := .encode, eff := 0#32
    buf := [], cnt := 0, eofSeen := false
    obuf := [], ocnt := 0, optr := 0
    inCount := 0#32, outCount := 0#32, chunkCount := 0#32
    errCode := 0#4, errChar := 0#8, errPos := 0#32, errLen := 0#32
    ie := false, cmdRej := false
    reqBufEnc := Params.default.defaultEncBuf, reqBufDec := Params.default.defaultDecBuf
    fwd := alphabet, rev := reverseAlphabet
    env := Env.empty, freeCount := 0 }

end Sys2Proof.Machine
end

