-- ==== Sys2Proof/Machine/Ops.lean ====
section
/-! DEFINITION. The named operations over the state: octets of BUF and OBUF, entering and leaving ERROR, the commands'
shared effects, the end of a chunk, and reset. -/

namespace Sys2Proof.Machine

/-! ## Memory: MemRead and MemWrite (spec 00_scope.md R13) -/

namespace Memory

/-- What an octet that nothing has written holds: no value (10_state.md R22, R24, R45; log entry 4). -/
def unlisted : Option Octet := none

/-- The value listed at an address. -/
def lookup (m : Memory) (a : Nat) : Option Octet :=
  match m with
  | [] => unlisted
  | (k, v) :: rest => if k = a then some v else lookup rest a

/-- List an octet at an address, keeping the addresses rising. -/
def insert (m : Memory) (a : Nat) (b : Octet) : Memory :=
  match m with
  | [] => [(a, b)]
  | (k, v) :: rest =>
    if k < a then (k, v) :: insert rest a b
    else if k = a then (a, b) :: rest
    else (a, b) :: (k, v) :: rest

/-- `MemRead(M, a, 1)` of a buffer of `size` octets. -/
def read (size : Nat) (m : Memory) (a : Nat) : Except MemFault Octet :=
  if a < size then
    match lookup m a with
    | some b => .ok b
    | none => .error .neverWritten
  else .error .noSuchAddress

/-- `MemWrite(M, a, 1, b)` on a buffer of `size` octets. -/
def write (size : Nat) (m : Memory) (a : Nat) (b : Octet) : Except MemFault Memory :=
  if a < size then .ok (insert m a b) else .error .noSuchAddress

/-- The `n` octets `M[a .. a+n)`, in order. -/
def readRange (size : Nat) (m : Memory) (a n : Nat) : Except MemFault (List Octet) :=
  match n with
  | 0 => .ok []
  | n + 1 =>
    match read size m a with
    | .error e => .error e
    | .ok b =>
      match readRange size m (a + 1) n with
      | .error e => .error e
      | .ok bs => .ok (b :: bs)

/-- `M[a .. a+len(bs)) <- bs`. -/
def writeRange (size : Nat) (m : Memory) (a : Nat) (bs : List Octet) : Except MemFault Memory :=
  match bs with
  | [] => .ok m
  | b :: rest =>
    match write size m a b with
    | .error e => .error e
    | .ok m' => writeRange size m' (a + 1) rest

/-- The addresses rise strictly and lie at or above `lo`. -/
def risesFrom (lo : Nat) (m : Memory) : Bool :=
  match m with
  | [] => true
  | (k, _) :: rest => decide (lo ≤ k) && risesFrom (k + 1) rest

/-- The canonical form of a buffer of `size` octets: addresses strictly rising and inside the buffer. (No listed octet
can equal what an unlisted one holds, since that is no value.) -/
def wf (size : Nat) (m : Memory) : Bool := risesFrom 0 m && m.all fun c => decide (c.1 < size)

end Memory

/-! ## Errors (spec 60_exceptions.md) -/

/-- The five causes of 60_exceptions.md R156. -/
inductive ErrCause where
  | invalidLength | paddingTooLong | illegalChar | ioRead | ioWrite
  deriving DecidableEq, Repr

/-- The code each cause records (R156). -/
def errCodeOf : ErrCause → BitVec 4
  | .invalidLength => 1#4
  | .paddingTooLong => 2#4
  | .illegalChar => 3#4
  | .ioRead => 4#4
  | .ioWrite => 5#4

/-- TAKING AN ERROR (R157): "enter ERROR with (code, char, pos, len)". Nothing else is written. -/
def enterError (cause : ErrCause) (char : Octet) (pos len : Word) (s : State) : State :=
  { s with state := .error, errCode := errCodeOf cause, errChar := char, errPos := pos, errLen := len }

/-- `ERR_CODE <- 0; ERR_CHAR <- 0; ERR_POS <- 0; ERR_LEN <- 0` (10_state.md R26). -/
def clearErrors (s : State) : State :=
  { s with errCode := 0#4, errChar := 0#8, errPos := 0#32, errLen := 0#32 }

/-- LEAVING DONE OR ERROR by CLEAR (44_host_interface.md R148, 60_exceptions.md R169). -/
def toIdle (s : State) : State := { clearErrors s with state := .idle }

/-! ## Starting a transcode (spec 43_stream_adapter.md R119, R120; 44_host_interface.md R146, R147) -/

/-- The group size `g` of a mode (R119). -/
def groupSize : Mode → Nat
  | .encode => 3
  | .decode => 4

/-- R120, exactly: the request rounded up to whole groups, at least one group, clamped to the buffer's capacity. -/
def effectiveSize (g req bufMax : Nat) : Nat :=
  let r := max g ((req + g - 1) / g * g)
  min r (bufMax / g * g)

/-- The request register of a mode (R120). -/
def request (m : Mode) (s : State) : Word :=
  match m with
  | .encode => s.reqBufEnc
  | .decode => s.reqBufDec

/-- The effect of an accepted START (R146, R147). -/
def startTranscode (m : Mode) (s : State) : State :=
  { clearErrors s with
    mode := m
    eff := BitVec.ofNat 32 (effectiveSize (groupSize m) (request m s).toNat s.params.bufSize)
    cnt := 0, ocnt := 0, optr := 0, eofSeen := false
    inCount := 0#32, outCount := 0#32, chunkCount := 0#32
    state := .fill }

/-- STATE is IDLE, DONE or ERROR: a legal command is accepted (R145). -/
def acceptsCommand (s : State) : Bool :=
  match s.state with
  | .idle | .done | .error => true
  | .fill | .process | .drain => false

/-- A rejected command: `CMD_REJ <- 1` and no other effect (R149). -/
def rejectCommand (s : State) : State := { s with cmdRej := true }

/-- A legal command: its effect where commands are accepted, a rejection otherwise (R145, R149). -/
def tryCommand (effect : State → State) (s : State) : State :=
  if acceptsCommand s then effect s else rejectCommand s

/-! ## Chunks (spec 43_stream_adapter.md) -/

/-- R128: "what happens when a chunk's output is fully drained, or is empty". -/
def endOfChunk (s : State) : State :=
  { s with cnt := 0, ocnt := 0, optr := 0, state := if s.eofSeen then .done else .fill }

/-- The octet lands in `BUF[CNT]`, already written to `buf`; the rest of R123. -/
def acceptOctet (buf : Memory) (s : State) : State :=
  { s with
    buf := buf
    cnt := s.cnt + 1
    inCount := s.inCount + 1#32
    state := if s.cnt + 1 = s.eff.toNat then .process else s.state }

/-- R124: the source is exhausted. -/
def endOfInput (s : State) : State :=
  { s with eofSeen := true, state := if 0 < s.cnt then .process else .done }

/-- A chunk's output is in OBUF and counted (R126, R127): `OCNT <- len(out); OPTR <- 0`, `CHUNK_COUNT + 1`, DRAIN. -/
def offerChunk (obuf : Memory) (len : Nat) (s : State) : State :=
  { s with obuf := obuf, ocnt := len, optr := 0, chunkCount := s.chunkCount + 1#32, state := .drain }

/-- The sink has received the octet `b` (R129, before the end-of-chunk test). -/
def giveOctet (b : Octet) (s : State) : State :=
  { s with
    optr := s.optr + 1
    outCount := s.outCount + 1#32
    env := { s.env with delivered := s.env.delivered ++ [b] } }

/-! ## The outside world -/

/-- A beat offered where the source port is not ready "stays pending and does not move" (30_encoding.md R68). -/
def keepPending (beat : BitVec 10) (s : State) : State :=
  { s with env := { s.env with srcQ := beat :: s.env.srcQ } }

/-- The register port answers a read (30_encoding.md R67). -/
def answerRead (v : Word) (s : State) : State := { s with env := { s.env with rdata := v } }

/-- The exposed group select answers with the group's result (log entry 8). -/
def answerGroup (out : List Octet) (s : State) : State := { s with env := { s.env with gopOut := out } }

/-- The reset event (70_reset_and_hazards.md R179, R182; 10_state.md R45): every piece of the block's state takes its
reset value; the ROMs stay; octets already delivered stay delivered; a beat that is being offered is neither taken nor
refused (log entry 16). -/
def resetBlock (s : State) : State :=
  { s with
    state := .idle, mode := .encode, eff := 0#32
    buf := [], cnt := 0, eofSeen := false
    obuf := [], ocnt := 0, optr := 0
    inCount := 0#32, outCount := 0#32, chunkCount := 0#32
    errCode := 0#4, errChar := 0#8, errPos := 0#32, errLen := 0#32
    ie := false, cmdRej := false
    reqBufEnc := s.params.defaultEncBuf, reqBufDec := s.params.defaultDecBuf }

end Sys2Proof.Machine
end

