-- ==== Sys2Proof/Machine/Commands.lean ====
section
/-! DEFINITION. The commands START_ENCODE, START_DECODE and CLEAR (spec 44_host_interface.md R145 to R149). -/

namespace Sys2Proof.Machine

/-- START_ENCODE (R146), rejected while BUSY (R149). -/
def execStartEncode (s : State) : Host.Outcome State Fault Refusal :=
  .next (tryCommand (startTranscode .encode) s)

/-- START_DECODE (R147), rejected while BUSY (R149). -/
def execStartDecode (s : State) : Host.Outcome State Fault Refusal :=
  .next (tryCommand (startTranscode .decode) s)

/-- CLEAR (R148), rejected while BUSY (R149). -/
def execClear (s : State) : Host.Outcome State Fault Refusal :=
  .next (tryCommand toIdle s)

/-- `command(w)` of R145: what a write of any word to CMD does. -/
def command (w : Word) (s : State) : State :=
  if w = 1#32 then tryCommand (startTranscode .encode) s
  else if w = 2#32 then tryCommand (startTranscode .decode) s
  else if w = 3#32 then tryCommand toIdle s
  else rejectCommand s

end Sys2Proof.Machine
end

