-- ==== Sys2Proof/Machine/Operands.lean ====
section
/-! DEFINITION. Operand assembly and the two lookups (spec 30_encoding.md R73, R74; 40_lookup_tables.md R85, R86). -/

namespace Sys2Proof.Machine

/-- R73: `o0 ‖ o1 ‖ o2`, the first octet in stream order the most significant (20_memory.md R49). -/
def octets3 (o0 o1 o2 : Octet) : BitVec 24 := o0 ++ o1 ++ o2

/-- R88: four sextets, most-significant first. -/
def split4 (acc : BitVec 24) : Sextet × Sextet × Sextet × Sextet :=
  (acc.extractLsb' 18 6, acc.extractLsb' 12 6, acc.extractLsb' 6 6, acc.extractLsb' 0 6)

/-- R74: `v0 ‖ v1 ‖ v2 ‖ v3`. -/
def sextets4 (v0 v1 v2 v3 : Sextet) : BitVec 24 := v0 ++ v1 ++ v2 ++ v3

/-- The octet of an accumulator or operand word whose lowest bit is bit `lo`. -/
def octetAt {n : Nat} (w : BitVec n) (lo : Nat) : Octet := w.extractLsb' lo 8

/-- Forward lookup `FWD[s]` (R85). -/
def fwdAt (fwd : FwdRom) (s : Sextet) : Octet := fwd[s.toNat]'s.isLt

/-- Reverse lookup `REV[c]` (R86). -/
def revAt (rev : RevRom) (c : Octet) : Octet := rev[c.toNat]'c.isLt

/-- The result of the reverse lookup is a sextet: not "absent from the Reverse Alphabet" (R86, 42_decoder.md R104). -/
def isSextet (rev : RevRom) (c : Octet) : Bool := decide ((revAt rev c).toNat ≤ 0x3F)

/-- The sextet of a character, `REV[c]` as a 6-bit value; meant for characters with `REV[c] <= 0x3F` (R106). -/
def sextetOf (rev : RevRom) (c : Octet) : Sextet := (revAt rev c).setWidth 6

/-- The sextet of a character, `free` where the character has none (log entry 9). -/
def sextetOr (rev : RevRom) (free : Sextet) (c : Octet) : Sextet :=
  if isSextet rev c then sextetOf rev c else free

end Sys2Proof.Machine
end

