-- ==== Sys2Proof/Machine/Codec.lean ====
section
/-! DEFINITION. The codec core as pure functions of their argument and a ROM: the six group operations, EncodeChunk and
DecodeChunk (spec 41_encoder.md, 42_decoder.md). -/

namespace Sys2Proof.Machine

/-! ## base64_encoder -/

/-- R89. -/
def encodeGroup3 (fwd : FwdRom) (o0 o1 o2 : Octet) : List Octet :=
  let (s0, s1, s2, s3) := split4 (octets3 o0 o1 o2)
  [fwdAt fwd s0, fwdAt fwd s1, fwdAt fwd s2, fwdAt fwd s3]

/-- R90: "the missing octet is zero". -/
def encodeGroup2 (fwd : FwdRom) (o0 o1 : Octet) : List Octet :=
  let (s0, s1, s2, _) := split4 (octets3 o0 o1 0#8)
  [fwdAt fwd s0, fwdAt fwd s1, fwdAt fwd s2, padChar]

/-- R91. -/
def encodeGroup1 (fwd : FwdRom) (o0 : Octet) : List Octet :=
  let (s0, s1, _, _) := split4 (octets3 o0 0#8 0#8)
  [fwdAt fwd s0, fwdAt fwd s1, padChar, padChar]

/-- `EncodeChunk` (R93, R94): full groups in order, then the short group, if any. -/
def encodeChunk (fwd : FwdRom) : List Octet → List Octet
  | o0 :: o1 :: o2 :: rest => encodeGroup3 fwd o0 o1 o2 ++ encodeChunk fwd rest
  | [o0, o1] => encodeGroup2 fwd o0 o1
  | [o0] => encodeGroup1 fwd o0
  | [] => []

/-! ## base64_decoder: the group operations, on sextets -/

/-- R106: three octets of `v0 ‖ v1 ‖ v2 ‖ v3`, most-significant first. -/
def decodeGroup0 (v0 v1 v2 v3 : Sextet) : List Octet :=
  let acc := sextets4 v0 v1 v2 v3
  [octetAt acc 16, octetAt acc 8, octetAt acc 0]

/-- R107: two octets; `acc[7:6]` is discarded (R109). -/
def decodeGroup1 (v0 v1 v2 : Sextet) : List Octet :=
  let acc := sextets4 v0 v1 v2 0#6
  [octetAt acc 16, octetAt acc 8]

/-- R108: one octet; `acc[15:12]` is discarded (R109). -/
def decodeGroup2 (v0 v1 : Sextet) : List Octet :=
  let acc := sextets4 v0 v1 0#6 0#6
  [octetAt acc 16]

/-! ## base64_decoder: validation, in the order of R99 to R104 -/

/-- Stage 1 (R99): one trailing LF is removed where the length is 1 modulo 4. -/
def stripNewline (t : List Octet) : List Octet :=
  if t.length % 4 = 1 ∧ t[t.length - 1]? = some lineFeed then t.take (t.length - 1) else t

/-- Stage 3 (R101): the number of trailing `=`, at most 2. -/
def padCount (t : List Octet) : Nat :=
  if 1 ≤ t.length ∧ t[t.length - 1]? = some padChar then
    if 2 ≤ t.length ∧ t[t.length - 2]? = some padChar then 2 else 1
  else 0

/-- Stage 3 (R102): a third trailing `=`. -/
def paddingTooLong (t : List Octet) : Bool :=
  decide (padCount t = 2 ∧ 3 ≤ t.length ∧ t[t.length - 3]? = some padChar)

/-- Stage 4 (R104): the first of these characters that has no sextet, with its index counted from `i`. -/
def firstIllegal (rev : RevRom) (i : Nat) : List Octet → Option (Octet × Nat)
  | [] => none
  | c :: cs => if isSextet rev c then firstIllegal rev (i + 1) cs else some (c, i)

/-- What a failed DecodeChunk carries (R111, R117): `(code, char, index, len)`. -/
structure ChunkError where
  cause : ErrCause
  char  : Octet
  index : Nat
  len   : Nat
  deriving DecidableEq, Repr

/-- The last group, by its padding count (R110). -/
def decodeLast (rev : RevRom) (p : Nat) (c0 c1 c2 c3 : Octet) : List Octet :=
  let v := sextetOf rev
  match p with
  | 0 => decodeGroup0 (v c0) (v c1) (v c2) (v c3)
  | 1 => decodeGroup1 (v c0) (v c1) (v c2)
  | _ => decodeGroup2 (v c0) (v c1)

/-- The decoding loop of R111: every group but the last by DEC0, the last by its padding (R110). -/
def decodeGroups (rev : RevRom) (p : Nat) : List Octet → List Octet
  | c0 :: c1 :: c2 :: c3 :: rest =>
    match rest with
    | [] => decodeLast rev p c0 c1 c2 c3
    | _ :: _ => decodeLast rev 0 c0 c1 c2 c3 ++ decodeGroups rev p rest
  | _ => []

/-- `DecodeChunk` (R111). -/
def decodeChunk (rev : RevRom) (t0 : List Octet) : Except ChunkError (List Octet) :=
  let t := stripNewline t0
  let L := t.length
  let p := padCount t
  if L % 4 ≠ 0 then .error ⟨.invalidLength, 0#8, 0, L⟩
  else if paddingTooLong t then .error ⟨.paddingTooLong, 0#8, 0, L⟩
  else
    match firstIllegal rev 0 (t.take (L - p)) with
    | some (c, i) => .error ⟨.illegalChar, c, i, L⟩
    | none => .ok (decodeGroups rev p t)

end Sys2Proof.Machine
end

