-- ==== Sys2Proof/Machine/Groups.lean ====
section
/-! DEFINITION. The six group operations on the exposed GOP line (spec 41_encoder.md R89 to R91, 42_decoder.md R106 to
R108; log entry 8): the operand word in, the group's result out, nothing else written. -/

namespace Sys2Proof.Machine

/-- ENC3 (R89). -/
def execEnc3 (operand : BitVec 24) (s : State) : Host.Outcome State Fault Refusal :=
  .next (answerGroup (encodeGroup3 s.fwd (octetAt operand 16) (octetAt operand 8) (octetAt operand 0)) s)

/-- ENC2 (R90): the octets are the operand's upper two; the third counts as zero. -/
def execEnc2 (operand : BitVec 24) (s : State) : Host.Outcome State Fault Refusal :=
  .next (answerGroup (encodeGroup2 s.fwd (octetAt operand 16) (octetAt operand 8)) s)

/-- ENC1 (R91): the octet is the operand's uppermost; the others count as zero. -/
def execEnc1 (operand : BitVec 24) (s : State) : Host.Outcome State Fault Refusal :=
  .next (answerGroup (encodeGroup1 s.fwd (octetAt operand 16)) s)

/-- The sextet of character `ci` (`i` from 0) of a decode operand `c0 ‖ c1 ‖ c2 ‖ c3` (30_encoding.md R74), a fresh free
value where the character has none (log entry 9). -/
def operandSextet (s : State) (operand : BitVec 32) (i : Nat) : Sextet :=
  sextetOr s.rev (Config.freeSextet (s.freeCount + i)) (octetAt operand (8 * (3 - i)))

/-- A decode group answers; the four free values it may have used are not used again. -/
def answerDecode (out : List Octet) (s : State) : State := { answerGroup out s with freeCount := s.freeCount + 4 }

/-- DEC0 (R106). -/
def execDec0 (operand : BitVec 32) (s : State) : Host.Outcome State Fault Refusal :=
  let v := operandSextet s operand
  .next (answerDecode (decodeGroup0 (v 0) (v 1) (v 2) (v 3)) s)

/-- DEC1 (R107); `c3` is not looked up. -/
def execDec1 (operand : BitVec 32) (s : State) : Host.Outcome State Fault Refusal :=
  let v := operandSextet s operand
  .next (answerDecode (decodeGroup1 (v 0) (v 1) (v 2)) s)

/-- DEC2 (R108); `c2` and `c3` are not looked up. -/
def execDec2 (operand : BitVec 32) (s : State) : Host.Outcome State Fault Refusal :=
  let v := operandSextet s operand
  .next (answerDecode (decodeGroup2 (v 0) (v 1)) s)

end Sys2Proof.Machine
end

