-- ==== Sys2Proof/Machine/Ports.lean ====
section
/-! DEFINITION. The port transactions: source beats and sink responses (spec 43_stream_adapter.md R122 to R125, R128 to
R130). -/

namespace Sys2Proof.Machine

/-! ## Source beats. Outside FILL the beat stays pending, unmoved (30_encoding.md R68; log entry 3). -/

/-- SRC_DATA (R123). -/
def execSrcData (data : Octet) (s : State) : Host.Outcome State Fault Refusal :=
  if s.state = .fill then
    match Memory.write s.params.bufSize s.buf s.cnt data with
    | .ok buf => .next (acceptOctet buf s)
    | .error e => .fault (.buf e)
  else .next (keepPending (srcWord 0b00#2 data) s)

/-- SRC_EOF (R124); DATA is ignored. -/
def execSrcEof (data : Octet) (s : State) : Host.Outcome State Fault Refusal :=
  if s.state = .fill then .next (endOfInput s) else .next (keepPending (srcWord 0b01#2 data) s)

/-- SRC_ERR (R125, 60_exceptions.md R161); DATA is ignored. -/
def execSrcErr (data : Octet) (s : State) : Host.Outcome State Fault Refusal :=
  if s.state = .fill then .next (enterError .ioRead 0#8 s.inCount 0#32 s)
  else .next (keepPending (srcWord 0b10#2 data) s)

/-! ## Sink responses. Outside DRAIN there is no offered octet to answer, and the model refuses (30_encoding.md R69). -/

/-- SNK_ACK (R129): the sink has received `OBUF[OPTR]`; the end of the chunk after its last octet (R128). -/
def execSnkAck (s : State) : Host.Outcome State Fault Refusal :=
  if s.state = .drain then
    match Memory.read s.params.obufSize s.obuf s.optr with
    | .ok b =>
      .next (if s.optr + 1 = s.ocnt then endOfChunk (giveOctet b s) else giveOctet b s)
    | .error e => .fault (.obuf e)
  else .refused .sinkOutsideDrain

/-- SNK_ERR (R130, 60_exceptions.md R162). -/
def execSnkErr (s : State) : Host.Outcome State Fault Refusal :=
  if s.state = .drain then .next (enterError .ioWrite 0#8 s.outCount 0#32 s)
  else .refused .sinkOutsideDrain

end Sys2Proof.Machine
end

