-- ==== Sys2Proof/Machine/Flags.lean ====
section
/-! DEFINITION. What is computed from the state and never stored: STATUS and its flags, ERR_CODE's CLASS, the irq
output and the two port levels (spec 10_state.md R34, R38; 60_exceptions.md R167; 30_encoding.md R68). -/

namespace Sys2Proof.Machine

/-- The numeric code of STATE (R19). -/
def stateCode : AdapterState → BitVec 3
  | .idle => 0#3
  | .fill => 1#3
  | .process => 2#3
  | .drain => 3#3
  | .done => 4#3
  | .error => 5#3

/-- MODE as a bit: 0 Encode, 1 Decode (R20). -/
def modeBit : Mode → Bool
  | .encode => false
  | .decode => true

/-- `BUSY`: STATE is FILL, PROCESS or DRAIN (R34). -/
def busy (s : State) : Bool :=
  match s.state with
  | .fill | .process | .drain => true
  | .idle | .done | .error => false

/-- `ERR`: STATE is ERROR (R34). -/
def errFlag (s : State) : Bool := s.state == .error

/-- The interrupt output: `irq = IE and (STATE = DONE or STATE = ERROR)` (R167). -/
def irq (s : State) : Bool := s.ie && (s.state == .done || s.state == .error)

/-- `ERR_CODE.CLASS`: 1 for an IOFailure (R38). -/
def errClass (s : State) : Bool := s.errCode == 4#4 || s.errCode == 5#4

/-- STATUS as read: `CMD_REJ ‖ ERR ‖ IRQ ‖ BUSY ‖ EOF_SEEN ‖ MODE ‖ code(STATE)`, zero-extended (44_host_interface.md R143). -/
def statusWord (s : State) : Word :=
  (BitVec.ofBool s.cmdRej ++ BitVec.ofBool (errFlag s) ++ BitVec.ofBool (irq s) ++ BitVec.ofBool (busy s) ++
    BitVec.ofBool s.eofSeen ++ BitVec.ofBool (modeBit s.mode) ++ stateCode s.state).setWidth 32

/-- ERR_CODE as read: `CLASS ‖ CODE`, zero-extended (R38, R143). -/
def errCodeWord (s : State) : Word := (BitVec.ofBool (errClass s) ++ s.errCode).setWidth 32

/-- The source port is ready exactly when STATE is FILL (30_encoding.md R68). -/
def srcReady (s : State) : Bool := s.state == .fill

/-- The octet offered on the sink port: `OBUF[OPTR]` while STATE is DRAIN (R68). -/
def offered (s : State) : Option Octet :=
  if s.state = .drain then (Memory.read s.params.obufSize s.obuf s.optr).toOption else none

end Sys2Proof.Machine
end

