-- ==== Sys2Proof/Machine/Registers.lean ====
section
/-! DEFINITION. Register accesses: REG_READ and REG_WRITE (spec 44_host_interface.md R143, R144, R150 to R154). -/

namespace Sys2Proof.Machine

/-- `value(OFFSET)` of R143, every reserved bit 0. -/
def regValue (s : State) : Reg → Word
  | .cmd => 0#32
  | .ctrl => (BitVec.ofBool s.ie).setWidth 32
  | .status => statusWord s
  | .reqBufEnc => s.reqBufEnc
  | .reqBufDec => s.reqBufDec
  | .effBuf => s.eff
  | .errCode => errCodeWord s
  | .errChar => s.errChar.setWidth 32
  | .errPos => s.errPos
  | .errLen => s.errLen
  | .inCount => s.inCount
  | .outCount => s.outCount
  | .chunkCount => s.chunkCount
  | .param => s.params.bufMax
  | .rsvd38 => 0#32
  | .rsvd3C => 0#32

/-- What a write of `w` to a register does (R144): a command, CTRL (R150), STATUS (R151), a request (R152), and no
effect on a read-only or reserved word (10_state.md R44). -/
def writeReg (r : Reg) (w : Word) (s : State) : State :=
  match r with
  | .cmd => command w s
  | .ctrl => { s with ie := w.getLsbD 0 }
  | .status => if w.getLsbD 8 then { s with cmdRej := false } else s
  | .reqBufEnc => { s with reqBufEnc := w }
  | .reqBufDec => { s with reqBufDec := w }
  | .effBuf | .errCode | .errChar | .errPos | .errLen | .inCount | .outCount | .chunkCount
  | .param | .rsvd38 | .rsvd3C => s

/-- REG_READ (R143): RDATA answers, nothing else changes (20_memory.md R54); WDATA is ignored (30_encoding.md R67). -/
def execRegRead (r : Reg) (_wdata : Word) (s : State) : Host.Outcome State Fault Refusal :=
  .next (answerRead (regValue s r) s)

/-- REG_WRITE (R144). -/
def execRegWrite (r : Reg) (wdata : Word) (s : State) : Host.Outcome State Fault Refusal :=
  .next (writeReg r wdata s)

end Sys2Proof.Machine
end

