-- ==== Sys2Proof/Machine/Dispatch.lean ====
section
/-! DEFINITION. One arm per row of spec/opcode_table.json. -/

namespace Sys2Proof.Machine

/-- The meaning of an instruction. -/
def exec (i : Instr) (s : State) : Host.Outcome State Fault Refusal :=
  match i with
  | .startEncode => Sys2Proof.Machine.execStartEncode s
  | .startDecode => Sys2Proof.Machine.execStartDecode s
  | .clear => Sys2Proof.Machine.execClear s
  | .regRead r wdata => Sys2Proof.Machine.execRegRead r wdata s
  | .regWrite r wdata => Sys2Proof.Machine.execRegWrite r wdata s
  | .srcData data => Sys2Proof.Machine.execSrcData data s
  | .srcEof data => Sys2Proof.Machine.execSrcEof data s
  | .srcErr data => Sys2Proof.Machine.execSrcErr data s
  | .snkAck => Sys2Proof.Machine.execSnkAck s
  | .snkErr => Sys2Proof.Machine.execSnkErr s
  | .enc3 operand => Sys2Proof.Machine.execEnc3 operand s
  | .enc2 operand => Sys2Proof.Machine.execEnc2 operand s
  | .enc1 operand => Sys2Proof.Machine.execEnc1 operand s
  | .dec0 operand => Sys2Proof.Machine.execDec0 operand s
  | .dec1 operand => Sys2Proof.Machine.execDec1 operand s
  | .dec2 operand => Sys2Proof.Machine.execDec2 operand s

end Sys2Proof.Machine
end

