-- ==== Sys2Proof/Machine/Fetch.lean ====
section
/-! DEFINITION. Whose move it is and what it is (spec 00_scope.md R14, 43_stream_adapter.md R122; log entries 1 to 3), and
placing a word where the next step takes it (log entry 14). -/

namespace Sys2Proof.Machine

/-- What the next step does, with the turn and the word that it uses up already taken from the environment. -/
inductive Fetched where
  | run (i : Instr) (s : State)
  | proc (s : State)
  | reset (s : State)
  /-- the agent has no enabled step: it waits (R122) -/
  | wait (s : State)
  | refuse (r : Refusal)

/-- The agent whose turn it is: the head of the list of turns, the adapter where nothing is listed, so that PROC is
taken whenever the outside world is silent (70_reset_and_hazards.md R192; log entry 2). -/
def nextAgent (s : State) : Agent :=
  match s.env.turns with
  | [] => .adapter
  | a :: _ => a

/-- The state with the turn used up. -/
def dropTurn (s : State) : State := { s with env := { s.env with turns := s.env.turns.tail } }

/-- A decoded word runs; a word that is no transaction is refused by its name. -/
def runWord (w : PortWord) (s : State) : Fetched :=
  match decode w with
  | .ok i => .run i s
  | .error e => .refuse (.badWord e)

/-- The next step. The source's head beat is looked at only in FILL: "in any other state a beat the source offers stays
pending and does not move" (30_encoding.md R68). -/
def fetch (s : State) : Fetched :=
  let t := dropTurn s
  match nextAgent s with
  | .host =>
    match t.env.busQ with
    | [] => .wait t
    | w :: ws => runWord (.bus w) { t with env := { t.env with busQ := ws } }
  | .source =>
    match t.env.srcQ with
    | [] => .wait t
    | w :: ws =>
      if t.state = .fill then runWord (.src w) { t with env := { t.env with srcQ := ws } } else .wait t
  | .sink =>
    match t.env.snkQ with
    | [] => .wait t
    | w :: ws => runWord (.snk w) { t with env := { t.env with snkQ := ws } }
  | .groupSelect =>
    match t.env.gopQ with
    | [] => .wait t
    | (sel, operand) :: ws => runWord (.gop sel operand) { t with env := { t.env with gopQ := ws } }
  | .adapter => if t.state = .process then .proc t else .wait t
  | .resetLine => .reset t

/-- The source port open: FILL, by START_ENCODE's own effect where the adapter is elsewhere (log entry 14). -/
def openSource (s : State) : State := if s.state = .fill then s else startTranscode .encode s

/-- The sink port open: DRAIN, with one octet offered where the adapter is elsewhere (log entry 14). -/
def openSink (s : State) : State :=
  if s.state = .drain then s
  else { s with state := .drain, obuf := Memory.insert s.obuf 0 0#8, ocnt := 1, optr := 0 }

/-- The state in which the next step takes exactly this word. -/
def placeWord (w : PortWord) (s : State) : State :=
  match w with
  | .bus b => { s with env := { s.env with turns := .host :: s.env.turns, busQ := b :: s.env.busQ } }
  | .src b =>
    let t := openSource s
    { t with env := { t.env with turns := .source :: t.env.turns, srcQ := b :: t.env.srcQ } }
  | .snk b =>
    let t := openSink s
    { t with env := { t.env with turns := .sink :: t.env.turns, snkQ := b :: t.env.snkQ } }
  | .gop sel operand =>
    { s with env := { s.env with turns := .groupSelect :: s.env.turns, gopQ := (sel, operand) :: s.env.gopQ } }

end Sys2Proof.Machine
end

