-- ==== Sys2Proof/Machine/Process.lean ====
section
/-! DEFINITION. The adapter's internal step PROC (spec 43_stream_adapter.md R126, R127). It has no encoding and no row in
the opcode table; the step function takes it on the adapter's turn. -/

namespace Sys2Proof.Machine

/-- `OBUF[0..len(out)) <- out` and the rest of a successful PROC: DRAIN, or the end of the chunk at once where a decoded
chunk gave no octet (R127). -/
def storeChunk (out : List Octet) (s : State) : Host.Outcome State Fault Refusal :=
  match Memory.writeRange s.params.obufSize s.obuf 0 out with
  | .error e => .fault (.obuf e)
  | .ok obuf =>
    let t := offerChunk obuf out.length s
    .next (if s.mode = .decode ∧ out.length = 0 then endOfChunk t else t)

/-- A chunk that does not decode (R127): ERROR, with `ERR_POS` the stream offset of the chunk, or of the illegal
character. `OBUF`, `OCNT`, `OPTR` and `CHUNK_COUNT` are unchanged. -/
def failChunk (e : ChunkError) (s : State) : State :=
  let base := s.inCount - BitVec.ofNat 32 s.cnt
  let pos := if e.cause = .illegalChar then base + BitVec.ofNat 32 e.index else base
  enterError e.cause e.char pos (BitVec.ofNat 32 e.len) s

/-- PROC, where STATE is PROCESS. -/
def execProc (s : State) : Host.Outcome State Fault Refusal :=
  match Memory.readRange s.params.bufSize s.buf 0 s.cnt with
  | .error e => .fault (.buf e)
  | .ok chunk =>
    match s.mode with
    | .encode => storeChunk (encodeChunk s.fwd chunk) s
    | .decode =>
      match decodeChunk s.rev chunk with
      | .ok out => storeChunk out s
      | .error e => .next (failChunk e s)

end Sys2Proof.Machine
end

