-- ==== Sys2Proof/Machine/Step.lean ====
section
/-! DEFINITION. One step of the block (spec 00_scope.md R14: every step is one atomic transition of one agent). -/

namespace Sys2Proof.Machine

/-- One step: the next agent's move. -/
def step (s : State) : Host.Outcome State Fault Refusal :=
  match fetch s with
  | .run i t => exec i t
  | .proc t => execProc t
  | .reset t => .next (resetBlock t)
  | .wait t => .next t
  | .refuse r => .refused r

/-- The state in which the next step runs the instruction of a word of spec/opcode_table.json (log entry 14). -/
def State.withFetchWord (s : State) (nbits w : Nat) : State :=
  match portWordOf nbits w with
  | some p => placeWord p s
  | none => s

end Sys2Proof.Machine
end

