-- ==== Sys2Proof/Safety.lean ====
section
/-! DEFINITION. What a safe state is, and the terms the claims use: the invariant of spec 10_state.md R47, the groups a
chunk issues, and the reference function of 43_stream_adapter.md R138 with the environment it speaks of. -/

namespace Sys2Proof.Machine

/-! ## The invariant -/

/-- Every one of the first `n` octets of a buffer has been written. -/
def Memory.filled (m : Memory) (n : Nat) : Prop := ∀ a, a < n → (Memory.lookup m a).isSome = true

/-- What every reachable state satisfies: the invariants of R47, the facts of R21, R22, R24, R26 and R38 they rest on,
and the canonical form of the two buffers. -/
structure Inv (s : State) : Prop where
  /-- R9 -/
  paramsOk    : s.params.wf = true
  bufWf       : Memory.wf s.params.bufSize s.buf = true
  obufWf      : Memory.wf s.params.obufSize s.obuf = true
  /-- R22 -/
  bufFilled   : Memory.filled s.buf s.cnt
  /-- R24 -/
  obufFilled  : Memory.filled s.obuf s.ocnt
  /-- R47 -/
  cntLeEff    : s.cnt ≤ s.eff.toNat
  effLeMax    : s.eff.toNat ≤ s.params.bufSize
  optrLeOcnt  : s.optr ≤ s.ocnt
  ocntLeMax   : s.ocnt ≤ s.params.obufSize
  /-- R21: zero before the first START, a whole number of groups from then on -/
  effZero     : s.eff.toNat = 0 → s.state = .idle
  effWhole    : s.eff.toNat % groupSize s.mode = 0
  /-- R47; for PROCESS with 43_stream_adapter.md R132, which says which of R47's two cases it is -/
  inFill      : s.state = .fill → s.eofSeen = false ∧ s.cnt < s.eff.toNat
  inProcess   : s.state = .process →
    0 < s.cnt ∧ (s.eofSeen = false → s.cnt = s.eff.toNat) ∧ (s.eofSeen = true → s.cnt < s.eff.toNat)
  inDrain     : s.state = .drain → s.optr < s.ocnt
  /-- R128, R146: nothing is on offer while a chunk is being gathered or processed -/
  noneOffered : s.state = .fill ∨ s.state = .process → s.ocnt = 0 ∧ s.optr = 0
  /-- 70_reset_and_hazards.md R188: the error registers read 0 outside ERROR -/
  errClear    : s.state ≠ .error → s.errCode = 0#4 ∧ s.errChar = 0#8 ∧ s.errPos = 0#32 ∧ s.errLen = 0#32
  /-- R38: one of the five codes in ERROR -/
  errKnown    : s.state = .error → 1 ≤ s.errCode.toNat ∧ s.errCode.toNat ≤ 5
  /-- R39 -/
  errCharOnly : s.errChar ≠ 0#8 → s.errCode = 3#4

/-- A step that ends in a next state. -/
def Completes (o : Host.Outcome State Fault Refusal) : Prop := ∃ t, o = .next t

/-! ## The group operations that PROC issues (R126, R127, 30_encoding.md R73, R74) -/

/-- The operand word of R73. -/
def encodeOperand (o0 o1 o2 : Octet) : BitVec 24 := octets3 o0 o1 o2

/-- The operand word of R74. -/
def decodeOperand (c0 c1 c2 c3 : Octet) : BitVec 32 := c0 ++ c1 ++ c2 ++ c3

/-- The GOPs of a chunk to encode, in order (41_encoder.md R94). -/
def encodeGops : List Octet → List Instr
  | o0 :: o1 :: o2 :: rest => .enc3 (encodeOperand o0 o1 o2) :: encodeGops rest
  | [o0, o1] => [.enc2 (encodeOperand o0 o1 0#8)]
  | [o0] => [.enc1 (encodeOperand o0 0#8 0#8)]
  | [] => []

/-- The GOPs of a validated chunk with `p` trailing padding characters, in order (42_decoder.md R110, R111). -/
def decodeGops (p : Nat) : List Octet → List Instr
  | c0 :: c1 :: c2 :: c3 :: rest =>
    match rest with
    | [] =>
      match p with
      | 0 => [.dec0 (decodeOperand c0 c1 c2 c3)]
      | 1 => [.dec1 (decodeOperand c0 c1 c2 c3)]
      | _ => [.dec2 (decodeOperand c0 c1 c2 c3)]
    | _ :: _ => .dec0 (decodeOperand c0 c1 c2 c3) :: decodeGops p rest
  | _ => []

/-- The result a group operation leaves on the exposed line. -/
def gopResult (s : State) (i : Instr) : List Octet :=
  match exec i s with
  | .next t => t.env.gopOut
  | _ => []

/-! ## The reference function (R138) -/

/-- The chunks of an input: `E` octets each, the last one shorter where `E` does not divide the length. At most `fuel`
of them. -/
def chunksUpTo (fuel E : Nat) (S : List Octet) : List (List Octet) :=
  match fuel with
  | 0 => []
  | k + 1 => if S = [] then [] else S.take E :: chunksUpTo k E (S.drop E)

/-- `chunks(S, E)` of R138, for `E >= 1`. -/
def chunks (E : Nat) (S : List Octet) : List (List Octet) := chunksUpTo S.length E S

/-- `f(mode)` of R138. -/
def codecFn (fwd : FwdRom) (rev : RevRom) : Mode → List Octet → Except ChunkError (List Octet)
  | .encode, b => .ok (encodeChunk fwd b)
  | .decode, t => decodeChunk rev t

/-- The loop of R138 over the chunks: the output, and the error that ended it, if any. -/
def transcodeChunks (f : List Octet → Except ChunkError (List Octet)) :
    List (List Octet) → List Octet × Option ChunkError
  | [] => ([], none)
  | ch :: rest =>
    match f ch with
    | .error e => ([], some e)
    | .ok o => (o ++ (transcodeChunks f rest).1, (transcodeChunks f rest).2)

/-- The stream offset of the chunk that ends the loop of R138: `base` of R127, before its reduction to 32 bits. -/
def failOffset (f : List Octet → Except ChunkError (List Octet)) : List (List Octet) → Nat
  | [] => 0
  | ch :: rest =>
    match f ch with
    | .error _ => 0
    | .ok _ => ch.length + failOffset f rest

/-- `Transcode(mode, E, S)` of R138. -/
def transcode (fwd : FwdRom) (rev : RevRom) (m : Mode) (E : Nat) (S : List Octet) : List Octet × Option ChunkError :=
  transcodeChunks (codecFn fwd rev m) (chunks E S)

/-! ## The well-behaved environment (R138) -/

/-- The source "sends the octets of S in order, then SRC_EOF". -/
def beatsOf (S : List Octet) : List (BitVec 10) := S.map (srcWord 0b00#2) ++ [srcWord 0b01#2 0#8]

/-- The agent `a` moves next, and the sink is ready to answer an offered octet with SNK_ACK. -/
def serve (a : Agent) (s : State) : State :=
  { s with env := { s.env with turns := [a], snkQ := if s.state = .drain then [0b01#2] else [] } }

/-- A run in which the listed agents move in turn. -/
def serveRun : List Agent → State → Host.Outcome State Fault Refusal
  | [], s => .next s
  | a :: rest, s =>
    match step (serve a s) with
    | .next t => serveRun rest t
    | .fault r => .fault r
    | .refused r => .refused r

/-- `n` rounds in each of which the source, the sink and the adapter all get a turn, in any order and any number of
times, and the host, which makes no access, may too. -/
def FairRounds (n : Nat) (agents : List Agent) : Prop :=
  ∃ rounds : List (List Agent), agents = rounds.flatten ∧ rounds.length = n ∧
    ∀ r ∈ rounds, .source ∈ r ∧ .sink ∈ r ∧ .adapter ∈ r ∧ ∀ a ∈ r, a ≠ .resetLine ∧ a ≠ .groupSelect

/-- A transcode has just been started (R146, R147) and the source holds the whole input `S`. -/
structure JustStarted (S : List Octet) (s : State) : Prop where
  inv      : Inv s
  filling  : s.state = .fill
  empty    : s.cnt = 0
  counters : s.inCount = 0#32 ∧ s.outCount = 0#32 ∧ s.chunkCount = 0#32
  source   : s.env.srcQ = beatsOf S
  quiet    : s.env.busQ = []

end Sys2Proof.Machine
end

