-- ==== Sys2Proof/Certificates/Slice0/Obligations.lean ====
section
/-! DEFINITION. The statements about the block, for the provers. Each cites the rule of spec/ it formalises. -/

open Sys2Proof Sys2Proof.Machine

/-! ## Encoding -/

/-- A word laid out bit by bit for every offset of 10_state.md R31 (a read, and a write of 0x11), every command of R65,
every KIND and RESP of R68, and every select of R72. The group words, a select with a 32-bit operand line whose low 24 bits
are an encode operand, are the model's choice (log entry 8). -/
def Obligations.SpecWordsDecode : Prop :=
  decode (.bus 0x00000000000#41) = .ok (.regRead .cmd 0#32) ∧
  decode (.bus 0x00400000000#41) = .ok (.regRead .ctrl 0#32) ∧
  decode (.bus 0x00800000000#41) = .ok (.regRead .status 0#32) ∧
  decode (.bus 0x00C00000000#41) = .ok (.regRead .reqBufEnc 0#32) ∧
  decode (.bus 0x01000000000#41) = .ok (.regRead .reqBufDec 0#32) ∧
  decode (.bus 0x01400000000#41) = .ok (.regRead .effBuf 0#32) ∧
  decode (.bus 0x01800000000#41) = .ok (.regRead .errCode 0#32) ∧
  decode (.bus 0x01C00000000#41) = .ok (.regRead .errChar 0#32) ∧
  decode (.bus 0x02000000000#41) = .ok (.regRead .errPos 0#32) ∧
  decode (.bus 0x02400000000#41) = .ok (.regRead .errLen 0#32) ∧
  decode (.bus 0x02800000000#41) = .ok (.regRead .inCount 0#32) ∧
  decode (.bus 0x02C00000000#41) = .ok (.regRead .outCount 0#32) ∧
  decode (.bus 0x03000000000#41) = .ok (.regRead .chunkCount 0#32) ∧
  decode (.bus 0x03400000000#41) = .ok (.regRead .param 0#32) ∧
  decode (.bus 0x03800000000#41) = .ok (.regRead .rsvd38 0#32) ∧
  decode (.bus 0x03C00000000#41) = .ok (.regRead .rsvd3C 0#32) ∧
  decode (.bus 0x10000000011#41) = .ok (.regWrite .cmd 0x11#32) ∧
  decode (.bus 0x10400000011#41) = .ok (.regWrite .ctrl 0x11#32) ∧
  decode (.bus 0x10800000011#41) = .ok (.regWrite .status 0x11#32) ∧
  decode (.bus 0x10C00000011#41) = .ok (.regWrite .reqBufEnc 0x11#32) ∧
  decode (.bus 0x11000000011#41) = .ok (.regWrite .reqBufDec 0x11#32) ∧
  decode (.bus 0x11400000011#41) = .ok (.regWrite .effBuf 0x11#32) ∧
  decode (.bus 0x11800000011#41) = .ok (.regWrite .errCode 0x11#32) ∧
  decode (.bus 0x11C00000011#41) = .ok (.regWrite .errChar 0x11#32) ∧
  decode (.bus 0x12000000011#41) = .ok (.regWrite .errPos 0x11#32) ∧
  decode (.bus 0x12400000011#41) = .ok (.regWrite .errLen 0x11#32) ∧
  decode (.bus 0x12800000011#41) = .ok (.regWrite .inCount 0x11#32) ∧
  decode (.bus 0x12C00000011#41) = .ok (.regWrite .outCount 0x11#32) ∧
  decode (.bus 0x13000000011#41) = .ok (.regWrite .chunkCount 0x11#32) ∧
  decode (.bus 0x13400000011#41) = .ok (.regWrite .param 0x11#32) ∧
  decode (.bus 0x13800000011#41) = .ok (.regWrite .rsvd38 0x11#32) ∧
  decode (.bus 0x13C00000011#41) = .ok (.regWrite .rsvd3C 0x11#32) ∧
  decode (.bus 0x10000000001#41) = .ok .startEncode ∧
  decode (.bus 0x10000000002#41) = .ok .startDecode ∧
  decode (.bus 0x10000000003#41) = .ok .clear ∧
  decode (.src 0x04D#10) = .ok (.srcData 0x4D#8) ∧
  decode (.src 0x100#10) = .ok (.srcEof 0#8) ∧
  decode (.src 0x200#10) = .ok (.srcErr 0#8) ∧
  decode (.snk 0b01#2) = .ok .snkAck ∧
  decode (.snk 0b10#2) = .ok .snkErr ∧
  decode (.gop 0b000#3 0x004D616E#32) = .ok (.enc3 0x4D616E#24) ∧
  decode (.gop 0b001#3 0x004D6100#32) = .ok (.enc2 0x4D6100#24) ∧
  decode (.gop 0b010#3 0x004D0000#32) = .ok (.enc1 0x4D0000#24) ∧
  decode (.gop 0b100#3 0x54574675#32) = .ok (.dec0 0x54574675#32) ∧
  decode (.gop 0b101#3 0x5457453D#32) = .ok (.dec1 0x5457453D#32) ∧
  decode (.gop 0b110#3 0x54513D3D#32) = .ok (.dec2 0x54513D3D#32)

/-- 30_encoding.md R65. -/
def Obligations.CommandIffExactWord : Prop :=
  ∀ w : Word, (decodeCmd w = some .startEncode ↔ w = 0x00000001#32) ∧
    (decodeCmd w = some .startDecode ↔ w = 0x00000002#32) ∧ (decodeCmd w = some .clear ↔ w = 0x00000003#32) ∧
    (decodeCmd w = none ↔ w ≠ 0x00000001#32 ∧ w ≠ 0x00000002#32 ∧ w ≠ 0x00000003#32)

/-- Every well-formed instruction, with every operand at every value, is read back from its word (R63 to R76). -/
def Obligations.DecodeOfEncode : Prop :=
  ∀ i : Instr, i.wellFormed = true → decode (encode i) = .ok i

/-- A word that decodes is the word of the instruction it decodes to, and that instruction is well-formed: no two words
have one meaning, but for the 8 line bits above a 24-bit encode operand (log entry 8). -/
def Obligations.EncodeOfDecode : Prop :=
  ∀ (p : PortWord) (i : Instr), decode p = .ok i → i.wellFormed = true ∧
    match p with
    | .gop sel operand => if sel.getLsbD 2 then encode i = p else encode i = .gop sel ((operand.setWidth 24).setWidth 32)
    | _ => encode i = p

/-- Exactly the words of R69, R70 and R72 are refused, each by its own name. -/
def Obligations.ReservedWordsRefused : Prop :=
  (∀ w : BitVec 41, (decode (.bus w) = .error .busMisaligned ↔ (w.extractLsb' 32 8).toNat % 4 ≠ 0) ∧
    (decode (.bus w) = .error .busOutOfWindow ↔
      (w.extractLsb' 32 8).toNat % 4 = 0 ∧ 0x40 ≤ (w.extractLsb' 32 8).toNat)) ∧
  (∀ w : BitVec 10, decode (.src w) = .error .srcKindReserved ↔ w.extractLsb' 8 2 = 0b11#2) ∧
  (∀ w : BitVec 2, decode (.snk w) = .error .snkRespReserved ↔ w = 0b00#2 ∨ w = 0b11#2) ∧
  (∀ (sel : BitVec 3) (o : BitVec 32),
    decode (.gop sel o) = .error .gopReserved ↔ sel = 0b011#3 ∨ sel = 0b111#3)

/-! ## Steps -/

/-- On an agent's turn, the word at the head of its port is taken and, where it decodes to `i`, the step is `exec i` in
the state without that turn and that word; a source beat is taken only in FILL (R68). The queues and the list of turns
are the model's (log entry 1). -/
def Obligations.StepRunsDecodedWord : Prop :=
  (∀ (s : State) (ts : List Agent) (w : BitVec 41) (ws : List (BitVec 41)) (i : Instr),
    s.env.turns = .host :: ts → s.env.busQ = w :: ws → decode (.bus w) = .ok i →
    step s = exec i { s with env := { s.env with turns := ts, busQ := ws } }) ∧
  (∀ (s : State) (ts : List Agent) (w : BitVec 10) (ws : List (BitVec 10)) (i : Instr), s.state = .fill →
    s.env.turns = .source :: ts → s.env.srcQ = w :: ws → decode (.src w) = .ok i →
    step s = exec i { s with env := { s.env with turns := ts, srcQ := ws } }) ∧
  (∀ (s : State) (ts : List Agent) (w : BitVec 2) (ws : List (BitVec 2)) (i : Instr),
    s.env.turns = .sink :: ts → s.env.snkQ = w :: ws → decode (.snk w) = .ok i →
    step s = exec i { s with env := { s.env with turns := ts, snkQ := ws } }) ∧
  (∀ (s : State) (ts : List Agent) (sel : BitVec 3) (o : BitVec 32) (ws : List (BitVec 3 × BitVec 32)) (i : Instr),
    s.env.turns = .groupSelect :: ts → s.env.gopQ = (sel, o) :: ws → decode (.gop sel o) = .ok i →
    step s = exec i { s with env := { s.env with turns := ts, gopQ := ws } })

/-- An agent without an enabled step waits: only its turn is used up. A pending beat outside FILL stays at the head of the
source's queue (R68, R122). -/
def Obligations.DisabledAgentWaits : Prop :=
  ∀ s : State,
    (nextAgent s = .source ∧ s.state ≠ .fill) ∨ (nextAgent s = .adapter ∧ s.state ≠ .process) ∨
      (nextAgent s = .host ∧ s.env.busQ = []) ∨ (nextAgent s = .source ∧ s.env.srcQ = []) ∨
      (nextAgent s = .sink ∧ s.env.snkQ = []) ∨ (nextAgent s = .groupSelect ∧ s.env.gopQ = []) →
    step s = .next { s with env := { s.env with turns := s.env.turns.tail } }

/-- A word that is no transaction is refused by its name on its agent's turn (R69, R70, R72). -/
def Obligations.ReservedWordStopsStep : Prop :=
  (∀ (s : State) (w : BitVec 41) (e : WordError), nextAgent s = .host → s.env.busQ.head? = some w →
    decode (.bus w) = .error e → step s = .refused (.badWord e)) ∧
  (∀ (s : State) (w : BitVec 10) (e : WordError), nextAgent s = .source → s.state = .fill →
    s.env.srcQ.head? = some w → decode (.src w) = .error e → step s = .refused (.badWord e)) ∧
  (∀ (s : State) (w : BitVec 2) (e : WordError), nextAgent s = .sink → s.env.snkQ.head? = some w →
    decode (.snk w) = .error e → step s = .refused (.badWord e)) ∧
  (∀ (s : State) (g : BitVec 3 × BitVec 32) (e : WordError), nextAgent s = .groupSelect →
    s.env.gopQ.head? = some g → decode (.gop g.1 g.2) = .error e → step s = .refused (.badWord e))

/-! ## Reset -/

/-- 70_reset_and_hazards.md R179 with the values of 10_state.md R45. The emptied buffers and the untouched environment
are the model's choice (log entries 4 and 16). -/
def Obligations.ResetFromAnyState : Prop :=
  ∀ s : State, nextAgent s = .resetLine →
    step s = .next { s with
      state := .idle, mode := .encode, eff := 0#32, buf := [], cnt := 0, eofSeen := false, obuf := [], ocnt := 0, optr := 0
      inCount := 0#32, outCount := 0#32, chunkCount := 0#32, errCode := 0#4, errChar := 0#8, errPos := 0#32, errLen := 0#32
      ie := false, cmdRej := false, reqBufEnc := s.params.defaultEncBuf, reqBufDec := s.params.defaultDecBuf
      env := { s.env with turns := s.env.turns.tail } }

/-! ## Commands -/

/-- 44_host_interface.md R146, where the command is enabled. -/
def Obligations.StartEncodeBegins : Prop :=
  ∀ s : State, s.state = .idle ∨ s.state = .done ∨ s.state = .error →
    ∃ t, exec .startEncode s = .next t ∧ irq t = false ∧ t = { s with
      mode := .encode
      eff := BitVec.ofNat 32 (min (max 3 ((s.reqBufEnc.toNat + 2) / 3 * 3)) (s.params.bufMax.toNat / 3 * 3))
      cnt := 0, ocnt := 0, optr := 0, eofSeen := false, inCount := 0#32, outCount := 0#32, chunkCount := 0#32
      errCode := 0#4, errChar := 0#8, errPos := 0#32, errLen := 0#32, state := .fill }

/-- R147, where the command is enabled. -/
def Obligations.StartDecodeBegins : Prop :=
  ∀ s : State, s.state = .idle ∨ s.state = .done ∨ s.state = .error →
    ∃ t, exec .startDecode s = .next t ∧ irq t = false ∧ t = { s with
      mode := .decode
      eff := BitVec.ofNat 32 (min (max 4 ((s.reqBufDec.toNat + 3) / 4 * 4)) (s.params.bufMax.toNat / 4 * 4))
      cnt := 0, ocnt := 0, optr := 0, eofSeen := false, inCount := 0#32, outCount := 0#32, chunkCount := 0#32
      errCode := 0#4, errChar := 0#8, errPos := 0#32, errLen := 0#32, state := .fill }

/-- R148, where the command is enabled. -/
def Obligations.ClearReturnsToIdle : Prop :=
  ∀ s : State, s.state = .idle ∨ s.state = .done ∨ s.state = .error →
    ∃ t, exec .clear s = .next t ∧ irq t = false ∧
      t = { s with state := .idle, errCode := 0#4, errChar := 0#8, errPos := 0#32, errLen := 0#32 }

/-- R149, both cases: an illegal word in any STATE, and any word while STATE is FILL, PROCESS or DRAIN. -/
def Obligations.RejectedCommandSetsFlagOnly : Prop :=
  (∀ (s : State) (w : Word), w ≠ 1#32 → w ≠ 2#32 → w ≠ 3#32 →
    exec (.regWrite .cmd w) s = .next { s with cmdRej := true }) ∧
  (∀ (s : State) (w : Word), s.state = .fill ∨ s.state = .process ∨ s.state = .drain →
    exec .startEncode s = .next { s with cmdRej := true } ∧ exec .startDecode s = .next { s with cmdRej := true } ∧
    exec .clear s = .next { s with cmdRej := true } ∧ exec (.regWrite .cmd w) s = .next { s with cmdRej := true })

/-- R145: a REG_WRITE of a legal word to CMD does what the command does, in every STATE. -/
def Obligations.CmdWriteIsTheCommand : Prop :=
  ∀ s : State, exec (.regWrite .cmd 1#32) s = exec .startEncode s ∧
    exec (.regWrite .cmd 2#32) s = exec .startDecode s ∧ exec (.regWrite .cmd 3#32) s = exec .clear s

/-- 43_stream_adapter.md R120: EFF is a whole number of groups from one group up to the capacity; where the request
fits it is the request rounded up, and the largest whole number of groups otherwise. -/
def Obligations.EffectiveSizeBounds : Prop :=
  ∀ (m : Mode) (req bufMax : Nat), 4 ≤ bufMax →
    effectiveSize (groupSize m) req bufMax % groupSize m = 0 ∧
    groupSize m ≤ effectiveSize (groupSize m) req bufMax ∧ effectiveSize (groupSize m) req bufMax ≤ bufMax ∧
    (req ≤ bufMax / groupSize m * groupSize m →
      req ≤ effectiveSize (groupSize m) req bufMax ∧
      effectiveSize (groupSize m) req bufMax < max req 1 + groupSize m) ∧
    (bufMax / groupSize m * groupSize m < req →
      effectiveSize (groupSize m) req bufMax = bufMax / groupSize m * groupSize m)

/-! ## Register accesses -/

/-- R143: each register's value, and nothing else changes (20_memory.md R54). Where the value is handed out is the model's
field env.rdata (log entry 6). -/
def Obligations.RegReadAnswersValue : Prop :=
  ∀ (s : State) (w : Word) (r : Reg), exec (.regRead r w) s = .next { s with env := { s.env with rdata :=
    match r with
    | .cmd | .rsvd38 | .rsvd3C => 0#32
    | .ctrl => if s.ie then 1#32 else 0#32
    | .status => (BitVec.ofBool s.cmdRej ++ BitVec.ofBool (s.state == .error) ++
        BitVec.ofBool (s.ie && (s.state == .done || s.state == .error)) ++
        BitVec.ofBool (s.state == .fill || s.state == .process || s.state == .drain) ++ BitVec.ofBool s.eofSeen ++
        BitVec.ofBool (s.mode == .decode) ++ (match s.state with
          | .idle => 0#3 | .fill => 1#3 | .process => 2#3 | .drain => 3#3 | .done => 4#3 | .error => 5#3 : BitVec 3)).setWidth 32
    | .reqBufEnc => s.reqBufEnc
    | .reqBufDec => s.reqBufDec
    | .effBuf => s.eff
    | .errCode => (BitVec.ofBool (s.errCode == 4#4 || s.errCode == 5#4) ++ s.errCode).setWidth 32
    | .errChar => s.errChar.setWidth 32
    | .errPos => s.errPos
    | .errLen => s.errLen
    | .inCount => s.inCount
    | .outCount => s.outCount
    | .chunkCount => s.chunkCount
    | .param => s.params.bufMax } }

/-- 10_state.md R34: where each field of STATUS stands, with the codes of STATE of R19 and the irq level of
60_exceptions.md R167, and that bits 31:9 read 0. -/
def Obligations.StatusFieldPositions : Prop :=
  ∀ s : State,
    ((statusWord s).extractLsb' 0 3 =
      match s.state with
      | .idle => 0#3 | .fill => 1#3 | .process => 2#3 | .drain => 3#3 | .done => 4#3 | .error => 5#3) ∧
    ((statusWord s).getLsbD 3 = true ↔ s.mode = .decode) ∧ (statusWord s).getLsbD 4 = s.eofSeen ∧
    ((statusWord s).getLsbD 5 = true ↔ s.state = .fill ∨ s.state = .process ∨ s.state = .drain) ∧
    (statusWord s).getLsbD 6 = irq s ∧ (irq s = true ↔ s.ie = true ∧ (s.state = .done ∨ s.state = .error)) ∧
    ((statusWord s).getLsbD 7 = true ↔ s.state = .error) ∧
    (statusWord s).getLsbD 8 = s.cmdRej ∧ (statusWord s).extractLsb' 9 23 = 0#23

/-- R150, R151, R152: what the writable registers take, and nothing else changes. -/
def Obligations.RegWriteConfiguration : Prop :=
  ∀ (s : State) (w : Word), exec (.regWrite .ctrl w) s = .next { s with ie := w.getLsbD 0 } ∧
    exec (.regWrite .status w) s = .next { s with cmdRej := s.cmdRej && !w.getLsbD 8 } ∧
    exec (.regWrite .reqBufEnc w) s = .next { s with reqBufEnc := w } ∧
    exec (.regWrite .reqBufDec w) s = .next { s with reqBufDec := w }

/-- R144, 10_state.md R44: a write to a read-only or reserved word changes nothing. -/
def Obligations.RegWriteReadOnlyIgnored : Prop :=
  ∀ (s : State) (w : Word) (r : Reg),
    r ∈ [Reg.effBuf, .errCode, .errChar, .errPos, .errLen, .inCount, .outCount, .chunkCount, .param, .rsvd38, .rsvd3C] →
    exec (.regWrite r w) s = .next s

/-! ## Source beats and sink responses -/

/-- 43_stream_adapter.md R123: the octet lands in BUF[CNT], every other octet of BUF reads as before, and nothing else
changes but CNT, IN_COUNT and, where the buffer is full, STATE. -/
def Obligations.SrcDataStoresOctet : Prop :=
  ∀ (s : State) (d : Octet), s.state = .fill → s.cnt < s.params.bufMax.toNat →
    ∃ buf, exec (.srcData d) s = .next { s with
        buf := buf, cnt := s.cnt + 1, inCount := s.inCount + 1#32
        state := if s.cnt + 1 = s.eff.toNat then .process else .fill } ∧
      Memory.read s.params.bufSize buf s.cnt = .ok d ∧
      ∀ a, a ≠ s.cnt → Memory.read s.params.bufSize buf a = Memory.read s.params.bufSize s.buf a

/-- R124. -/
def Obligations.SrcEofEndsInput : Prop :=
  ∀ (s : State) (x : Octet), s.state = .fill →
    exec (.srcEof x) s = .next { s with eofSeen := true, state := if s.cnt = 0 then .done else .process }

/-- R125, 60_exceptions.md R161. -/
def Obligations.SrcErrEntersError : Prop :=
  ∀ (s : State) (x : Octet), s.state = .fill →
    exec (.srcErr x) s = .next { s with
      state := .error, errCode := 4#4, errChar := 0#8, errPos := s.inCount, errLen := 0#32 }

/-- 30_encoding.md R68: outside FILL the beat stays pending and does not move, and nothing else happens (the queue is the
model's: log entry 3). -/
def Obligations.BeatOutsideFillStaysPending : Prop :=
  ∀ (s : State) (d : Octet), s.state ≠ .fill →
    exec (.srcData d) s = .next { s with env := { s.env with srcQ := (0b00#2 ++ d) :: s.env.srcQ } } ∧
    exec (.srcEof d) s = .next { s with env := { s.env with srcQ := (0b01#2 ++ d) :: s.env.srcQ } } ∧
    exec (.srcErr d) s = .next { s with env := { s.env with srcQ := (0b10#2 ++ d) :: s.env.srcQ } }

/-- R129, R128: the sink receives OBUF[OPTR]; the last octet of a chunk ends the chunk. Nothing else changes. What the
sink has received is the model's field env.delivered (log entry 7). -/
def Obligations.SnkAckDeliversOctet : Prop :=
  ∀ (s : State) (b : Octet), s.state = .drain → Memory.read s.params.obufSize s.obuf s.optr = .ok b →
    exec .snkAck s = .next (if s.optr + 1 = s.ocnt then
        { s with cnt := 0, ocnt := 0, optr := 0, state := if s.eofSeen then .done else .fill
                 outCount := s.outCount + 1#32, env := { s.env with delivered := s.env.delivered ++ [b] } }
      else { s with optr := s.optr + 1, outCount := s.outCount + 1#32
                    env := { s.env with delivered := s.env.delivered ++ [b] } })

/-- R130, 60_exceptions.md R162. -/
def Obligations.SnkErrEntersError : Prop :=
  ∀ s : State, s.state = .drain →
    exec .snkErr s = .next { s with
      state := .error, errCode := 5#4, errChar := 0#8, errPos := s.outCount, errLen := 0#32 }

/-- R69: a SNK response while STATE is not DRAIN is refused. -/
def Obligations.SinkOutsideDrainRefused : Prop :=
  ∀ s : State, s.state ≠ .drain →
    exec .snkAck s = .refused .sinkOutsideDrain ∧ exec .snkErr s = .refused .sinkOutsideDrain

/-! ## PROC -/

/-- 43_stream_adapter.md R126: PROC in Encode. OBUF[0..len) holds the encoded chunk, every other octet of OBUF reads as
before, and nothing else changes but OCNT, OPTR, CHUNK_COUNT, STATE and the used-up turn. -/
def Obligations.ProcEncodesChunk : Prop :=
  ∀ (s : State) (chunk : List Octet), Inv s → s.state = .process → s.mode = .encode → nextAgent s = .adapter →
    Memory.readRange s.params.bufSize s.buf 0 s.cnt = .ok chunk →
    ∃ obuf, step s = .next { s with
        obuf := obuf, ocnt := (encodeChunk s.fwd chunk).length, optr := 0, chunkCount := s.chunkCount + 1#32
        state := .drain, env := { s.env with turns := s.env.turns.tail } } ∧
      (∀ a, a < (encodeChunk s.fwd chunk).length →
        (Memory.read s.params.obufSize obuf a).toOption = (encodeChunk s.fwd chunk)[a]?) ∧
      ∀ a, (encodeChunk s.fwd chunk).length ≤ a →
        Memory.read s.params.obufSize obuf a = Memory.read s.params.obufSize s.obuf a

/-- R127: PROC in Decode. A chunk that decodes is stored as in Encode, and ends at once where it gives no octet; a chunk
that does not enters ERROR with the code of 60_exceptions.md R156 and the context of R158 to R160, and nothing else
changes. -/
def Obligations.ProcDecodesChunk : Prop :=
  ∀ (s : State) (chunk : List Octet), Inv s → s.state = .process → s.mode = .decode → nextAgent s = .adapter →
    Memory.readRange s.params.bufSize s.buf 0 s.cnt = .ok chunk →
    match decodeChunk s.rev chunk with
    | .ok out =>
      ∃ obuf, step s = .next (if out = [] then
          { s with obuf := obuf, cnt := 0, ocnt := 0, optr := 0, chunkCount := s.chunkCount + 1#32
                   state := if s.eofSeen then .done else .fill, env := { s.env with turns := s.env.turns.tail } }
        else
          { s with obuf := obuf, ocnt := out.length, optr := 0, chunkCount := s.chunkCount + 1#32
                   state := .drain, env := { s.env with turns := s.env.turns.tail } }) ∧
        (∀ a, a < out.length → (Memory.read s.params.obufSize obuf a).toOption = out[a]?) ∧
        ∀ a, out.length ≤ a → Memory.read s.params.obufSize obuf a = Memory.read s.params.obufSize s.obuf a
    | .error e =>
      step s = .next { s with
        state := .error
        errCode := match e.cause with
          | .invalidLength => 1#4 | .paddingTooLong => 2#4 | .illegalChar => 3#4 | .ioRead => 4#4 | .ioWrite => 5#4
        errChar := e.char
        errPos := s.inCount - BitVec.ofNat 32 s.cnt +
          (if e.cause = .illegalChar then BitVec.ofNat 32 e.index else 0#32)
        errLen := BitVec.ofNat 32 e.len, env := { s.env with turns := s.env.turns.tail } }

/-- PROC's output is the results of the group operations it issues, in order (R126, R127, 41_encoder.md R94,
42_decoder.md R111). Running a group operation by itself is the model's reading (log entry 8). -/
def Obligations.ChunkIsItsGroupOperations : Prop :=
  (∀ (s : State) (b : List Octet), (encodeGops b).flatMap (gopResult s) = encodeChunk s.fwd b) ∧
  (∀ (s : State) (t out : List Octet), decodeChunk s.rev t = .ok out →
    (decodeGops (padCount (stripNewline t)) (stripNewline t)).flatMap (gopResult s) = out)

/-! ## Group operations -/

/-- 41_encoder.md R89, R90, R91, on every operand word; the octets a short group lacks count as zero, whatever the word
holds there. The result is handed out in the model's field env.gopOut (log entry 8). -/
def Obligations.EncodeGroupOperations : Prop :=
  ∀ (s : State) (o0 o1 o2 : Octet),
    (exec (.enc3 (o0 ++ o1 ++ o2)) s = .next { s with env := { s.env with gopOut :=
      [fwdAt s.fwd ((o0 ++ o1 ++ o2 : BitVec 24).extractLsb' 18 6), fwdAt s.fwd ((o0 ++ o1 ++ o2 : BitVec 24).extractLsb' 12 6),
       fwdAt s.fwd ((o0 ++ o1 ++ o2 : BitVec 24).extractLsb' 6 6), fwdAt s.fwd ((o0 ++ o1 ++ o2 : BitVec 24).extractLsb' 0 6)] } }) ∧
    (exec (.enc2 (o0 ++ o1 ++ o2)) s = .next { s with env := { s.env with gopOut :=
      [fwdAt s.fwd ((o0 ++ o1 ++ 0#8 : BitVec 24).extractLsb' 18 6), fwdAt s.fwd ((o0 ++ o1 ++ 0#8 : BitVec 24).extractLsb' 12 6),
       fwdAt s.fwd ((o0 ++ o1 ++ 0#8 : BitVec 24).extractLsb' 6 6), 0x3D#8] } }) ∧
    (exec (.enc1 (o0 ++ o1 ++ o2)) s = .next { s with env := { s.env with gopOut :=
      [fwdAt s.fwd ((o0 ++ 0#8 ++ 0#8 : BitVec 24).extractLsb' 18 6), fwdAt s.fwd ((o0 ++ 0#8 ++ 0#8 : BitVec 24).extractLsb' 12 6),
       0x3D#8, 0x3D#8] } })

/-- 42_decoder.md R106, R107, R108, where each character looked up has a sextet `v` (`REV[c] = v <= 0x3F`); the padded
positions are not looked up. The result field and the counter are the model's (log entries 8 and 9). -/
def Obligations.DecodeGroupOperations : Prop :=
  ∀ (s : State) (c0 c1 c2 c3 : Octet) (v0 v1 v2 v3 : Sextet), revAt s.rev c0 = v0.setWidth 8 → revAt s.rev c1 = v1.setWidth 8 →
    (exec (.dec2 (c0 ++ c1 ++ c2 ++ c3)) s = .next { s with freeCount := s.freeCount + 4, env := { s.env with gopOut :=
      [(v0 ++ v1 ++ 0#6 ++ 0#6 : BitVec 24).extractLsb' 16 8] } }) ∧
    (revAt s.rev c2 = v2.setWidth 8 →
      (exec (.dec1 (c0 ++ c1 ++ c2 ++ c3)) s = .next { s with freeCount := s.freeCount + 4, env := { s.env with gopOut :=
        [(v0 ++ v1 ++ v2 ++ 0#6 : BitVec 24).extractLsb' 16 8, (v0 ++ v1 ++ v2 ++ 0#6 : BitVec 24).extractLsb' 8 8] } }) ∧
      (revAt s.rev c3 = v3.setWidth 8 →
        exec (.dec0 (c0 ++ c1 ++ c2 ++ c3)) s = .next { s with freeCount := s.freeCount + 4, env := { s.env with gopOut :=
          [(v0 ++ v1 ++ v2 ++ v3 : BitVec 24).extractLsb' 16 8, (v0 ++ v1 ++ v2 ++ v3 : BitVec 24).extractLsb' 8 8,
           (v0 ++ v1 ++ v2 ++ v3 : BitVec 24).extractLsb' 0 8] } }))

/-- On every operand word, also one with characters outside the alphabet, whose sextets are free values (log entry 9), a
decode group completes with 3, 2 or 1 octets and changes nothing but its result and the counter. -/
def Obligations.DecodeGroupsAlwaysComplete : Prop :=
  ∀ (s : State) (o : BitVec 32), ∃ r0 r1 r2 : List Octet, r0.length = 3 ∧ r1.length = 2 ∧ r2.length = 1 ∧
    exec (.dec0 o) s = .next { s with freeCount := s.freeCount + 4, env := { s.env with gopOut := r0 } } ∧
    exec (.dec1 o) s = .next { s with freeCount := s.freeCount + 4, env := { s.env with gopOut := r1 } } ∧
    exec (.dec2 o) s = .next { s with freeCount := s.freeCount + 4, env := { s.env with gopOut := r2 } }

/-- R109: the bits below the last whole octet of a padded group do not show in the result and are not checked, so that
`"TR=="` decodes to `"M"`. -/
def Obligations.TrailingBitsDiscarded : Prop :=
  (∀ v0 v1 v2 v2' : Sextet, v2.extractLsb' 2 4 = v2'.extractLsb' 2 4 →
    decodeGroup1 v0 v1 v2 = decodeGroup1 v0 v1 v2') ∧
  (∀ v0 v1 v1' : Sextet, v1.extractLsb' 4 2 = v1'.extractLsb' 4 2 → decodeGroup2 v0 v1 = decodeGroup2 v0 v1') ∧
  decodeChunk reverseAlphabet [0x54#8, 0x52#8, 0x3D#8, 0x3D#8] = .ok [0x4D#8]

/-! ## The ROMs -/

/-- The alphabet's contents are the standard ones (40_lookup_tables.md gives them from general knowledge: log entry 11), and
they meet R80. -/
def Obligations.AlphabetIsBijective : Prop :=
  (∀ a : Sextet, fwdAt alphabet a =
    if a.toNat ≤ 25 then BitVec.ofNat 8 (0x41 + a.toNat)
    else if a.toNat ≤ 51 then BitVec.ofNat 8 (0x61 + (a.toNat - 26))
    else if a.toNat ≤ 61 then BitVec.ofNat 8 (0x30 + (a.toNat - 52))
    else if a.toNat = 62 then 0x2B#8 else 0x2F#8) ∧
  (∀ a b : Sextet, fwdAt alphabet a = fwdAt alphabet b → a = b) ∧
  (∀ a : Sextet, 0x21 ≤ (fwdAt alphabet a).toNat ∧ (fwdAt alphabet a).toNat ≤ 0x7E ∧ fwdAt alphabet a ≠ 0x3D#8 ∧
    fwdAt alphabet a ≠ 0x0A#8 ∧ fwdAt alphabet a ≠ 0x2D#8)

/-- R84: each entry of REV, by the three cases. -/
def Obligations.ReverseAlphabetDerived : Prop :=
  (∀ a : Sextet, revAt reverseAlphabet (fwdAt alphabet a) = a.setWidth 8) ∧ revAt reverseAlphabet 0x3D#8 = 0x40#8 ∧
  (∀ c : Octet, (∀ a : Sextet, fwdAt alphabet a ≠ c) → c ≠ 0x3D#8 → revAt reverseAlphabet c = 0x80#8)

/-- R30, R87: no step changes a ROM, or the parameters of the instance. -/
def Obligations.RomsNeverChange : Prop :=
  ∀ s t : State, step s = .next t → t.fwd = s.fwd ∧ t.rev = s.rev ∧ t.params = s.params

/-! ## EncodeChunk -/

/-- 41_encoder.md R95: the length, and that a chunk of at most the clamped buffer always fits OBUF. -/
def Obligations.EncodeChunkLength : Prop :=
  ∀ (fwd : FwdRom) (b : List Octet),
    (encodeChunk fwd b).length = (b.length + 2) / 3 * 4 ∧
    (encodeChunk fwd b).length = 4 * (b.length / 3) + (if 0 < b.length % 3 then 4 else 0) ∧
    ∀ p : Params, b.length ≤ p.bufMax.toNat / 3 * 3 → (encodeChunk fwd b).length ≤ p.obufSize

/-- 41_encoder.md R98. -/
def Obligations.EncodeChunkConcatenation : Prop :=
  ∀ (fwd : FwdRom) (a b : List Octet), a.length % 3 = 0 →
    encodeChunk fwd (a ++ b) = encodeChunk fwd a ++ encodeChunk fwd b

/-! ## DecodeChunk -/

/-- 42_decoder.md R101: the padding count is the number of `=` found at the end, scanning at most two. -/
def Obligations.PaddingCountScansTwo : Prop :=
  ∀ t : List Octet, (padCount t = 2 ↔ [0x3D#8, 0x3D#8] <:+ t) ∧
    (padCount t = 1 ↔ [0x3D#8] <:+ t ∧ ¬ [0x3D#8, 0x3D#8] <:+ t) ∧ (padCount t = 0 ↔ ¬ [0x3D#8] <:+ t)

/-- R99: one trailing LF is removed exactly where the length is 1 modulo 4, and nothing else ever is. -/
def Obligations.NewlineConcession : Prop :=
  ∀ t : List Octet, ((t ++ [0x0A#8]).length % 4 = 1 → stripNewline (t ++ [0x0A#8]) = t) ∧
    (t.length % 4 ≠ 1 ∨ ¬ [0x0A#8] <:+ t → stripNewline t = t)

/-- R100, R102, R104 in the order of R103 and 60_exceptions.md R164: what DecodeChunk answers for every text, from the
text after the newline concession. -/
def Obligations.DecodeChunkVerdict : Prop :=
  ∀ (rev : RevRom) (t0 t : List Octet), t = stripNewline t0 →
    (t.length % 4 ≠ 0 → decodeChunk rev t0 = .error ⟨.invalidLength, 0#8, 0, t.length⟩) ∧
    (t.length % 4 = 0 → [0x3D#8, 0x3D#8, 0x3D#8] <:+ t →
      decodeChunk rev t0 = .error ⟨.paddingTooLong, 0#8, 0, t.length⟩) ∧
    (t.length % 4 = 0 → ¬ [0x3D#8, 0x3D#8, 0x3D#8] <:+ t →
      (∀ (i : Nat) (c : Octet), i < t.length - padCount t → t[i]? = some c → 0x3F < (revAt rev c).toNat →
        (∀ (j : Nat) (d : Octet), j < i → t[j]? = some d → (revAt rev d).toNat ≤ 0x3F) →
        decodeChunk rev t0 = .error ⟨.illegalChar, c, i, t.length⟩) ∧
      ((∀ (i : Nat) (c : Octet), i < t.length - padCount t → t[i]? = some c → (revAt rev c).toNat ≤ 0x3F) →
        ∃ out, decodeChunk rev t0 = .ok out))

/-- R112: the output length, and that a chunk of at most the capacity always fits OBUF. -/
def Obligations.DecodeChunkLength : Prop :=
  ∀ (rev : RevRom) (t out : List Octet), decodeChunk rev t = .ok out →
    out.length = (stripNewline t).length / 4 * 3 - padCount (stripNewline t) ∧
    ∀ p : Params, p.wf = true → t.length ≤ p.bufMax.toNat → out.length ≤ p.obufSize

/-- R116. -/
def Obligations.TwoNewlinesFail : Prop :=
  ∀ t : List Octet, ∃ e, decodeChunk reverseAlphabet (t ++ [0x0A#8, 0x0A#8]) = .error e

/-- R115: the round trip. -/
def Obligations.DecodeOfEncodeChunk : Prop :=
  ∀ b : List Octet, decodeChunk reverseAlphabet (encodeChunk alphabet b) = .ok b

/-! ## Streaming -/

/-- 43_stream_adapter.md R139. -/
def Obligations.StreamedEncodeIsExact : Prop :=
  ∀ (fwd : FwdRom) (rev : RevRom) (E : Nat) (S : List Octet), E % 3 = 0 → 3 ≤ E →
    transcode fwd rev .encode E S = (encodeChunk fwd S, none)

/-- R140, with its two examples: S = "TQ==TQ==" with E = 4 and with E = 8 (E >= 8 gives one chunk). -/
def Obligations.StreamedDecodeOfValidInput : Prop :=
  (∀ (fwd : FwdRom) (E : Nat) (S b : List Octet), E % 4 = 0 → 4 ≤ E →
    decodeChunk reverseAlphabet S = .ok b → transcode fwd reverseAlphabet .decode E S = (b, none)) ∧
  (∀ fwd : FwdRom, transcode fwd reverseAlphabet .decode 4
      [0x54#8, 0x51#8, 0x3D#8, 0x3D#8, 0x54#8, 0x51#8, 0x3D#8, 0x3D#8] = ([0x4D#8, 0x4D#8], none)) ∧
  (∀ (fwd : FwdRom) (E : Nat), 8 ≤ E → transcode fwd reverseAlphabet .decode E
      [0x54#8, 0x51#8, 0x3D#8, 0x3D#8, 0x54#8, 0x51#8, 0x3D#8, 0x3D#8] = ([], some ⟨.illegalChar, 0x3D#8, 2, 8⟩))

/-- R138: every fair run from START in a well-behaved environment reaches DONE or ERROR as Transcode says, with the
sink having received exactly its output; in ERROR, ERR_POS is R127's. Six rounds per octet of input and one more are
enough. The turns, the queues and what the sink has received are the model's fields (log entries 1, 2, 7). -/
def Obligations.FairRunMeetsTranscode : Prop :=
  ∀ (s : State) (S : List Octet) (agents : List Agent), JustStarted S s → FairRounds (6 * S.length + 1) agents →
    ∃ t, serveRun agents s = .next t ∧
      t.env.delivered = s.env.delivered ++ (transcode s.fwd s.rev s.mode s.eff.toNat S).1 ∧
      t.outCount = BitVec.ofNat 32 (transcode s.fwd s.rev s.mode s.eff.toNat S).1.length ∧
      match (transcode s.fwd s.rev s.mode s.eff.toNat S).2 with
      | none => t.state = .done ∧ t.inCount = BitVec.ofNat 32 S.length ∧
          t.chunkCount = BitVec.ofNat 32 (chunks s.eff.toNat S).length
      | some e => t.state = .error ∧ t.errChar = e.char ∧
          (t.errCode = match e.cause with
            | .invalidLength => 1#4 | .paddingTooLong => 2#4 | .illegalChar => 3#4 | .ioRead => 4#4 | .ioWrite => 5#4) ∧
          t.errPos = BitVec.ofNat 32 (failOffset (codecFn s.fwd s.rev s.mode) (chunks s.eff.toNat S) +
            if e.cause = .illegalChar then e.index else 0) ∧
          t.errLen = BitVec.ofNat 32 e.len

/-! ## Whole-machine rules -/

/-- The state after reset meets the invariant (10_state.md R45, R47). -/
def Obligations.ResetMeetsInvariant : Prop := Inv State.reset

/-- 10_state.md R47: every step preserves the invariant. -/
def Obligations.StepKeepsInvariant : Prop :=
  ∀ s t : State, Inv s → step s = .next t → Inv t

/-- 43_stream_adapter.md R121, 10_state.md R22, R24: where the invariant holds no step faults; it is refused only for a
word that is no transaction or a sink response outside DRAIN. -/
def Obligations.InvariantRulesOutFaults : Prop :=
  ∀ s : State, Inv s → (∀ f, step s ≠ .fault f) ∧
    (∀ r, step s = .refused r → (∃ e, r = .badWord e) ∨ (r = .sinkOutsideDrain ∧ s.state ≠ .drain ∧ nextAgent s = .sink))

/-- R132: a chunk in PROCESS before the end of input is exactly EFF octets, a whole number of groups; only the one after
it is shorter. -/
def Obligations.ChunksAreWholeGroups : Prop :=
  ∀ s t : State, Inv s → step s = .next t → t.state = .process →
    (t.eofSeen = false → t.cnt = t.eff.toNat ∧ t.cnt % groupSize t.mode = 0) ∧
    (t.eofSeen = true → 1 ≤ t.cnt ∧ t.cnt < t.eff.toNat)

/-- 10_state.md R20, R21, 44_host_interface.md R153: MODE and EFF change only at a START the block accepts, or at reset. -/
def Obligations.ModeAndSizeLatchedAtStart : Prop :=
  ∀ s t : State, step s = .next t → t.mode ≠ s.mode ∨ t.eff ≠ s.eff →
    nextAgent s = .resetLine ∨
    (nextAgent s = .host ∧ (s.state = .idle ∨ s.state = .done ∨ s.state = .error) ∧ t.state = .fill ∧
      ∃ w, s.env.busQ.head? = some w ∧ (decode (.bus w) = .ok .startEncode ∨ decode (.bus w) = .ok .startDecode))

/-- 43_stream_adapter.md R131, 60_exceptions.md R169: DONE and ERROR are quiescent and are left only by START, CLEAR or
reset. -/
def Obligations.DoneAndErrorAreQuiescent : Prop :=
  ∀ s t : State, s.state = .done ∨ s.state = .error → step s = .next t →
    (nextAgent s = .source ∨ nextAgent s = .sink ∨ nextAgent s = .adapter →
      t = { s with env := { s.env with turns := s.env.turns.tail } }) ∧
    (t.state ≠ s.state → nextAgent s = .resetLine ∨ (nextAgent s = .host ∧ ∃ w, s.env.busQ.head? = some w ∧
      (decode (.bus w) = .ok .startEncode ∨ decode (.bus w) = .ok .startDecode ∨ decode (.bus w) = .ok .clear)))

/-- R137: while a transcode runs, no host access changes it; only CMD_REJ, IE, the request registers and, in the
environment (log entries 1 and 6), RDATA, the turn and the host's own queue can change. -/
def Obligations.RunningTranscodeNotCancelled : Prop :=
  ∀ s t : State, s.state = .fill ∨ s.state = .process ∨ s.state = .drain → nextAgent s = .host → step s = .next t →
    ∃ (answer : Word) (rej ie : Bool) (qe qd : Word),
      t = { s with
        cmdRej := rej, ie := ie, reqBufEnc := qe, reqBufDec := qd
        env := { s.env with turns := s.env.turns.tail, busQ := s.env.busQ.tail, rdata := answer } }

/-- 60_exceptions.md R157: whatever the cause, a step into ERROR writes STATE and the four error registers and nothing
else of the block, gives the sink nothing and answers nothing. The code is one of R156's five. -/
def Obligations.ErrorEntryFrame : Prop :=
  ∀ s t : State, s.state ≠ .error → step s = .next t → t.state = .error →
    ∃ (e : Env) (code : BitVec 4) (char : Octet) (pos len : Word), 1 ≤ code.toNat ∧ code.toNat ≤ 5 ∧
      e.delivered = s.env.delivered ∧ e.rdata = s.env.rdata ∧ e.gopOut = s.env.gopOut ∧
      t = { s with state := .error, errCode := code, errChar := char, errPos := pos, errLen := len, env := e }

/-- R163: in Encode only IO_READ (4) and IO_WRITE (5) occur. -/
def Obligations.EncodeNeverInvalidInput : Prop :=
  ∀ s t : State, s.mode = .encode → s.state ≠ .error → step s = .next t → t.state = .error →
    t.errCode = 4#4 ∨ t.errCode = 5#4

/-- 43_stream_adapter.md R134, R129: what the sink has accepted is never withdrawn; it grows by one octet at a time,
the offered one, and OUT_COUNT with it. -/
def Obligations.DeliveredNeverWithdrawn : Prop :=
  ∀ s t : State, step s = .next t →
    t.env.delivered = s.env.delivered ∨
    (nextAgent s = .sink ∧ s.state = .drain ∧ t.outCount = s.outCount + 1#32 ∧
      ∃ b, offered s = some b ∧ Memory.read s.params.obufSize s.obuf s.optr = .ok b ∧
        t.env.delivered = s.env.delivered ++ [b])

/-- 60_exceptions.md R168: the irq output, once high, falls only at START, CLEAR, a write of 0 to CTRL.IE, or reset. -/
def Obligations.InterruptClearedOnlyBy : Prop :=
  ∀ s t : State, irq s = true → step s = .next t → irq t = false →
    nextAgent s = .resetLine ∨ (nextAgent s = .host ∧ ∃ w, s.env.busQ.head? = some w ∧
      (decode (.bus w) = .ok .startEncode ∨ decode (.bus w) = .ok .startDecode ∨ decode (.bus w) = .ok .clear ∨
        ∃ v, v.getLsbD 0 = false ∧ decode (.bus w) = .ok (.regWrite .ctrl v)))

/-- 10_state.md R28: CMD_REJ is set only by a rejected write to CMD (R149: no command, or the block is busy) and cleared only by writing 1 to STATUS.CMD_REJ or by
reset. -/
def Obligations.CommandRejectedIsSticky : Prop :=
  ∀ s t : State, step s = .next t →
    (s.cmdRej = true → t.cmdRej = false → nextAgent s = .resetLine ∨ (nextAgent s = .host ∧
      ∃ w v, s.env.busQ.head? = some w ∧ v.getLsbD 8 = true ∧ decode (.bus w) = .ok (.regWrite .status v))) ∧
    (s.cmdRej = false → t.cmdRej = true → nextAgent s = .host ∧ ∃ w, s.env.busQ.head? = some w ∧
      w.getLsbD 40 = true ∧ w.extractLsb' 32 8 = 0x00#8 ∧
      (w.extractLsb' 0 32 ≠ 1#32 ∧ w.extractLsb' 0 32 ≠ 2#32 ∧ w.extractLsb' 0 32 ≠ 3#32 ∨
        s.state = .fill ∨ s.state = .process ∨ s.state = .drain))

/-- 10_state.md R45 at the default parameters of 00_scope.md R9: what the state after reset holds, but for the two buffers
and the model's own fields (log entries 4, 6 to 9). The default parameters are log entry 10's choice, the contents of the
ROMs log entry 11's. -/
def Obligations.ResetStateValues : Prop :=
  State.reset.params = ⟨4096#32, 3072#32, 4096#32⟩ ∧
  State.reset.state = .idle ∧ State.reset.mode = .encode ∧ State.reset.eff = 0#32 ∧ State.reset.cnt = 0 ∧
  State.reset.eofSeen = false ∧ State.reset.ocnt = 0 ∧ State.reset.optr = 0 ∧ State.reset.inCount = 0#32 ∧
  State.reset.outCount = 0#32 ∧ State.reset.chunkCount = 0#32 ∧ State.reset.errCode = 0#4 ∧
  State.reset.errChar = 0#8 ∧ State.reset.errPos = 0#32 ∧ State.reset.errLen = 0#32 ∧ State.reset.ie = false ∧
  State.reset.cmdRej = false ∧ State.reset.reqBufEnc = 3072#32 ∧ State.reset.reqBufDec = 4096#32 ∧
  State.reset.fwd = alphabet ∧ State.reset.rev = reverseAlphabet ∧ irq State.reset = false ∧
  statusWord State.reset = 0#32
end

