-- ==== Sys2Proof/Laws/Memory.lean ====
section
/-! SUPPORT. What reading and writing the octets of a buffer do: read after write, every other octet kept, and the
canonical form kept by every operation. -/

namespace Sys2Proof.Machine.Memory

@[simp] theorem lookup_insert_self (m : Memory) (a : Nat) (b : Octet) : lookup (insert m a b) a = some b := by
  induction m with
  | nil => simp [insert, lookup]
  | cons c rest ih =>
    obtain ⟨k, v⟩ := c
    simp only [insert]
    split
    · next h => simp [lookup, Nat.ne_of_lt h, ih]
    · split <;> simp [lookup]

theorem lookup_insert_other (m : Memory) {a x : Nat} (b : Octet) (h : x ≠ a) :
    lookup (insert m a b) x = lookup m x := by
  induction m with
  | nil => simp [insert, lookup, Ne.symm h, unlisted]
  | cons c rest ih =>
    obtain ⟨k, v⟩ := c
    simp only [insert]
    split
    · simp [lookup, ih]
    · split
      · next hk => simp [lookup, hk, Ne.symm h]
      · simp [lookup, Ne.symm h]

theorem risesFrom_mono {m : Memory} {lo lo' : Nat} (hle : lo' ≤ lo) (h : risesFrom lo m = true) :
    risesFrom lo' m = true := by
  cases m with
  | nil => rfl
  | cons c rest =>
    obtain ⟨k, v⟩ := c
    simp only [risesFrom, Bool.and_eq_true, decide_eq_true_eq] at h ⊢
    exact ⟨by omega, h.2⟩

theorem risesFrom_insert {m : Memory} {lo a : Nat} (b : Octet) (ha : lo ≤ a) (h : risesFrom lo m = true) :
    risesFrom lo (insert m a b) = true := by
  induction m generalizing lo with
  | nil => simp [insert, risesFrom, ha]
  | cons c rest ih =>
    obtain ⟨k, v⟩ := c
    simp only [risesFrom, Bool.and_eq_true, decide_eq_true_eq] at h
    simp only [insert]
    split
    · next hk => simp [risesFrom, h.1, ih hk h.2]
    · split
      · next hk => subst hk; simp [risesFrom, h.1, h.2]
      · next hk hne => simp [risesFrom, ha, h.2]; omega

theorem all_insert {m : Memory} {a : Nat} {b : Octet} {P : Host.Cell → Bool} (hab : P (a, b) = true)
    (h : m.all P = true) : (insert m a b).all P = true := by
  induction m with
  | nil => simp [insert, hab]
  | cons c rest ih =>
    obtain ⟨k, v⟩ := c
    simp only [List.all_cons, Bool.and_eq_true] at h
    simp only [insert]
    split
    · simp only [List.all_cons, Bool.and_eq_true]; exact ⟨h.1, ih h.2⟩
    · split
      · simp only [List.all_cons, Bool.and_eq_true]; exact ⟨hab, h.2⟩
      · simp only [List.all_cons, Bool.and_eq_true]; exact ⟨hab, h.1, h.2⟩

/-- Listing an octet inside the buffer keeps the canonical form. -/
theorem wf_insert {size : Nat} {m : Memory} {a : Nat} (b : Octet) (ha : a < size) (h : wf size m = true) :
    wf size (insert m a b) = true := by
  simp only [wf, Bool.and_eq_true] at h ⊢
  exact ⟨risesFrom_insert b (Nat.zero_le _) h.1, all_insert (by simpa using ha) h.2⟩

/-- All that a write can do. -/
theorem write_ok {size : Nat} {m m' : Memory} {a : Nat} {b : Octet} (h : write size m a b = .ok m') :
    a < size ∧ m' = insert m a b := by
  unfold write at h
  split at h
  · next ha => exact ⟨ha, by simpa using h.symm⟩
  · simp at h

theorem write_of_lt {size : Nat} (m : Memory) {a : Nat} (b : Octet) (h : a < size) :
    write size m a b = .ok (insert m a b) := by simp [write, h]

/-- Every write keeps the canonical form. -/
theorem wf_write {size : Nat} {m m' : Memory} {a : Nat} {b : Octet} (h : write size m a b = .ok m')
    (hm : wf size m = true) : wf size m' = true := by
  obtain ⟨ha, rfl⟩ := write_ok h
  exact wf_insert b ha hm

/-- All that a read can answer. -/
theorem read_ok {size : Nat} {m : Memory} {a : Nat} {b : Octet} :
    read size m a = .ok b ↔ a < size ∧ lookup m a = some b := by
  unfold read
  split
  · next ha => cases hl : lookup m a <;> simp [ha]
  · next ha => simp [ha]

/-- A write of several octets succeeds exactly where they all lie inside the buffer. -/
theorem writeRange_of_le {size : Nat} (m : Memory) (a : Nat) (bs : List Octet) (h : a + bs.length ≤ size) :
    ∃ m', writeRange size m a bs = .ok m' := by
  induction bs generalizing m a with
  | nil => exact ⟨m, rfl⟩
  | cons b rest ih =>
    simp only [List.length_cons] at h
    have ha : a < size := by omega
    simpa [writeRange, write_of_lt m b ha] using ih (insert m a b) (a + 1) (by omega)

/-- What a write of several octets leaves: the octets at their addresses, everything else as before. -/
theorem lookup_writeRange {size : Nat} {m m' : Memory} {a : Nat} {bs : List Octet}
    (h : writeRange size m a bs = .ok m') (x : Nat) :
    lookup m' x = if a ≤ x ∧ x < a + bs.length then bs[x - a]? else lookup m x := by
  induction bs generalizing m a with
  | nil =>
    simp only [writeRange, Except.ok.injEq] at h
    subst h
    rw [if_neg (by simp)]
  | cons b rest ih =>
    simp only [writeRange] at h
    split at h
    · simp at h
    · next m1 hw =>
      obtain ⟨ha, rfl⟩ := write_ok hw
      rw [ih h]
      rcases Nat.lt_trichotomy x a with hx | hx | hx
      · rw [if_neg (by omega), if_neg (by omega), lookup_insert_other m b (by omega)]
      · subst hx
        rw [if_neg (by omega), if_pos (by simp)]
        simp
      · obtain ⟨k, rfl⟩ : ∃ k, x = a + 1 + k := ⟨x - (a + 1), by omega⟩
        simp only [List.length_cons]
        have e : a + 1 + k - a = (a + 1 + k - (a + 1)) + 1 := by omega
        rw [e, List.getElem?_cons_succ]
        split
        · rw [if_pos (by omega)]
        · rw [if_neg (by omega), lookup_insert_other m b (by omega)]

/-- Every write of several octets keeps the canonical form. -/
theorem wf_writeRange {size : Nat} {m m' : Memory} {a : Nat} {bs : List Octet}
    (h : writeRange size m a bs = .ok m') (hm : wf size m = true) : wf size m' = true := by
  induction bs generalizing m a with
  | nil => simp only [writeRange, Except.ok.injEq] at h; exact h ▸ hm
  | cons b rest ih =>
    simp only [writeRange] at h
    split at h
    · simp at h
    · next m1 hw => exact ih h (wf_write hw hm)

/-- All that a read of several octets can answer: that many octets, each the one at its address. -/
theorem readRange_ok {size : Nat} {m : Memory} {a n : Nat} {bs : List Octet} :
    readRange size m a n = .ok bs ↔
      bs.length = n ∧ ∀ k, k < n → a + k < size ∧ lookup m (a + k) = bs[k]? := by
  induction n generalizing a bs with
  | zero => cases bs <;> simp [readRange]
  | succ n ih =>
    simp only [readRange]
    cases hr : read size m a with
    | error e =>
      simp only [reduceCtorEq, false_iff, not_and]
      intro hl h
      cases bs with
      | nil => simp at hl
      | cons b rest =>
        have h0 := h 0 (Nat.succ_pos n)
        simp only [Nat.add_zero, List.getElem?_cons_zero] at h0
        rw [read_ok.mpr h0] at hr
        simp at hr
    | ok b =>
      have hb := read_ok.mp hr
      cases hrr : readRange size m (a + 1) n with
      | error e =>
        simp only [reduceCtorEq, false_iff, not_and]
        intro hl h
        cases bs with
        | nil => simp at hl
        | cons b' rest =>
          have : readRange size m (a + 1) n = .ok rest := by
            refine ih.mpr ⟨by simpa using hl, fun k hk => ?_⟩
            have := h (k + 1) (by omega)
            rw [List.getElem?_cons_succ, show a + (k + 1) = a + 1 + k by omega] at this
            exact this
          rw [this] at hrr
          simp at hrr
      | ok rest =>
        have hrest := ih.mp hrr
        simp only [Except.ok.injEq]
        constructor
        · rintro rfl
          refine ⟨by simp [hrest.1], fun k hk => ?_⟩
          cases k with
          | zero => simpa using hb
          | succ k =>
            have := hrest.2 k (by omega)
            rw [List.getElem?_cons_succ, show a + (k + 1) = a + 1 + k by omega]
            exact this
        · rintro ⟨hl, h⟩
          apply List.ext_getElem?
          intro k
          rcases Nat.lt_or_ge k (n + 1) with hk | hk
          · rw [← (h k hk).2]
            cases k with
            | zero => simpa using hb.2.symm
            | succ k =>
              rw [List.getElem?_cons_succ, ← (hrest.2 k (by omega)).2, show a + (k + 1) = a + 1 + k by omega]
          · rw [List.getElem?_eq_none (by simp [hrest.1]; omega), List.getElem?_eq_none (by omega)]

end Sys2Proof.Machine.Memory
end

