-- ==== Sys2Proof/Laws/PerInstr.lean ====
section
/-! SUPPORT. Families of facts with one lemma per instruction. `RowBits`: the encoder gives each instruction the bits of
its row of spec/opcode_table.json, on the port of its format (spec 30_encoding.md R63, R76). -/

namespace Sys2Proof.Laws.RowBits

/-- The fields of a BUS word (R67). -/
def isBus (p : PortWord) (we : Bool) (off : BitVec 8) (wdata : Word) : Prop :=
  ∃ w, p = .bus w ∧ w.getLsbD 40 = we ∧ w.extractLsb' 32 8 = off ∧ w.extractLsb' 0 32 = wdata

/-- The fields of a SRC word (R68). -/
def isSrc (p : PortWord) (kind : BitVec 2) (data : Octet) : Prop :=
  ∃ w, p = .src w ∧ w.extractLsb' 8 2 = kind ∧ w.extractLsb' 0 8 = data

/-- The row's fixed bits, and the operands where the row has them. -/
def Statement : Instr → Prop
  | .startEncode => isBus (encode .startEncode) true 0#8 0x00000001#32
  | .startDecode => isBus (encode .startDecode) true 0#8 0x00000002#32
  | .clear => isBus (encode .clear) true 0#8 0x00000003#32
  | .regRead r w => isBus (encode (.regRead r w)) false r.offset w
  | .regWrite r w => isBus (encode (.regWrite r w)) true r.offset w
  | .srcData d => isSrc (encode (.srcData d)) 0b00#2 d
  | .srcEof d => isSrc (encode (.srcEof d)) 0b01#2 d
  | .srcErr d => isSrc (encode (.srcErr d)) 0b10#2 d
  | .snkAck => encode .snkAck = .snk 0b01#2
  | .snkErr => encode .snkErr = .snk 0b10#2
  | .enc3 o => encode (.enc3 o) = .gop 0b000#3 (0#8 ++ o)
  | .enc2 o => encode (.enc2 o) = .gop 0b001#3 (0#8 ++ o)
  | .enc1 o => encode (.enc1 o) = .gop 0b010#3 (0#8 ++ o)
  | .dec0 o => encode (.dec0 o) = .gop 0b100#3 o
  | .dec1 o => encode (.dec1 o) = .gop 0b101#3 o
  | .dec2 o => encode (.dec2 o) = .gop 0b110#3 o

theorem busWord_fields (we : Bool) (off : BitVec 8) (wdata : Word) :
    (busWord we off wdata).getLsbD 40 = we ∧ (busWord we off wdata).extractLsb' 32 8 = off ∧
      (busWord we off wdata).extractLsb' 0 32 = wdata := by
  have key : ∀ i, (busWord we off wdata).getLsbD i =
      if i < 32 then wdata.getLsbD i else if i < 40 then off.getLsbD (i - 32) else (BitVec.ofBool we).getLsbD (i - 40) := by
    intro i
    unfold busWord
    rw [BitVec.getLsbD_append, BitVec.getLsbD_append]
    split
    · rfl
    · simp only [show i - 32 < 8 ↔ i < 40 by omega, show i - 32 - 8 = i - 40 by omega]
  refine ⟨by simp [key, -BitVec.getLsbD_eq_getElem], ?_, ?_⟩ <;>
    apply BitVec.eq_of_getLsbD_eq <;> intro i hi <;> rw [BitVec.getLsbD_extractLsb', key]
  · rw [if_neg (by omega), if_pos (by omega)]; simp [hi]
  · rw [if_pos (by omega)]; simp [hi]

theorem srcWord_fields (kind : BitVec 2) (data : Octet) :
    (srcWord kind data).extractLsb' 8 2 = kind ∧ (srcWord kind data).extractLsb' 0 8 = data := by
  have key : ∀ i, (srcWord kind data).getLsbD i = if i < 8 then data.getLsbD i else kind.getLsbD (i - 8) := by
    intro i
    unfold srcWord
    rw [BitVec.getLsbD_append]
  refine ⟨?_, ?_⟩ <;> apply BitVec.eq_of_getLsbD_eq <;> intro i hi <;> rw [BitVec.getLsbD_extractLsb', key]
  · rw [if_neg (by omega)]; simp [hi]
  · rw [if_pos (by omega)]; simp [hi]

theorem setWidth_operand (o : BitVec 24) : o.setWidth 32 = 0#8 ++ o := by
  apply BitVec.eq_of_getLsbD_eq
  intro i hi
  rw [BitVec.getLsbD_append, BitVec.getLsbD_setWidth]
  split
  · simp [hi]
  · rw [BitVec.getLsbD_of_ge _ _ (by omega)]; simp

theorem isBus_busWord (we : Bool) (off : BitVec 8) (wdata : Word) : isBus (.bus (busWord we off wdata)) we off wdata :=
  ⟨_, rfl, busWord_fields we off wdata⟩

theorem isSrc_srcWord (kind : BitVec 2) (data : Octet) : isSrc (.src (srcWord kind data)) kind data :=
  ⟨_, rfl, srcWord_fields kind data⟩

theorem startEncode : Statement .startEncode := isBus_busWord _ _ _
theorem startDecode : Statement .startDecode := isBus_busWord _ _ _
theorem clear : Statement .clear := isBus_busWord _ _ _
theorem regRead (r : Reg) (w : Word) : Statement (.regRead r w) := isBus_busWord _ _ _
theorem regWrite (r : Reg) (w : Word) : Statement (.regWrite r w) := isBus_busWord _ _ _
theorem srcData (d : Octet) : Statement (.srcData d) := isSrc_srcWord _ _
theorem srcEof (d : Octet) : Statement (.srcEof d) := isSrc_srcWord _ _
theorem srcErr (d : Octet) : Statement (.srcErr d) := isSrc_srcWord _ _
theorem snkAck : Statement .snkAck := rfl
theorem snkErr : Statement .snkErr := rfl
theorem enc3 (o : BitVec 24) : Statement (.enc3 o) := congrArg (PortWord.gop 0b000#3) (setWidth_operand o)
theorem enc2 (o : BitVec 24) : Statement (.enc2 o) := congrArg (PortWord.gop 0b001#3) (setWidth_operand o)
theorem enc1 (o : BitVec 24) : Statement (.enc1 o) := congrArg (PortWord.gop 0b010#3) (setWidth_operand o)
theorem dec0 (o : BitVec 32) : Statement (.dec0 o) := rfl
theorem dec1 (o : BitVec 32) : Statement (.dec1 o) := rfl
theorem dec2 (o : BitVec 32) : Statement (.dec2 o) := rfl

end Sys2Proof.Laws.RowBits
end

