-- ==== Sys2Proof/Laws/State.lean ====
section
/-! SUPPORT. For each named update of State, one lemma per field (and per field of the environment it touches), all true
by rfl: no later proof unfolds a record update. -/

namespace Sys2Proof.Machine

variable (s : State)

/-! ## enterError -/

@[simp] theorem enterError_params (c : ErrCause) (ch : Octet) (p l : Word) : (enterError c ch p l s).params = s.params := rfl
@[simp] theorem enterError_state (c : ErrCause) (ch : Octet) (p l : Word) : (enterError c ch p l s).state = .error := rfl
@[simp] theorem enterError_mode (c : ErrCause) (ch : Octet) (p l : Word) : (enterError c ch p l s).mode = s.mode := rfl
@[simp] theorem enterError_eff (c : ErrCause) (ch : Octet) (p l : Word) : (enterError c ch p l s).eff = s.eff := rfl
@[simp] theorem enterError_buf (c : ErrCause) (ch : Octet) (p l : Word) : (enterError c ch p l s).buf = s.buf := rfl
@[simp] theorem enterError_cnt (c : ErrCause) (ch : Octet) (p l : Word) : (enterError c ch p l s).cnt = s.cnt := rfl
@[simp] theorem enterError_eofSeen (c : ErrCause) (ch : Octet) (p l : Word) : (enterError c ch p l s).eofSeen = s.eofSeen := rfl
@[simp] theorem enterError_obuf (c : ErrCause) (ch : Octet) (p l : Word) : (enterError c ch p l s).obuf = s.obuf := rfl
@[simp] theorem enterError_ocnt (c : ErrCause) (ch : Octet) (p l : Word) : (enterError c ch p l s).ocnt = s.ocnt := rfl
@[simp] theorem enterError_optr (c : ErrCause) (ch : Octet) (p l : Word) : (enterError c ch p l s).optr = s.optr := rfl
@[simp] theorem enterError_inCount (c : ErrCause) (ch : Octet) (p l : Word) : (enterError c ch p l s).inCount = s.inCount := rfl
@[simp] theorem enterError_outCount (c : ErrCause) (ch : Octet) (p l : Word) : (enterError c ch p l s).outCount = s.outCount := rfl
@[simp] theorem enterError_chunkCount (c : ErrCause) (ch : Octet) (p l : Word) : (enterError c ch p l s).chunkCount = s.chunkCount := rfl
@[simp] theorem enterError_errCode (c : ErrCause) (ch : Octet) (p l : Word) : (enterError c ch p l s).errCode = errCodeOf c := rfl
@[simp] theorem enterError_errChar (c : ErrCause) (ch : Octet) (p l : Word) : (enterError c ch p l s).errChar = ch := rfl
@[simp] theorem enterError_errPos (c : ErrCause) (ch : Octet) (p l : Word) : (enterError c ch p l s).errPos = p := rfl
@[simp] theorem enterError_errLen (c : ErrCause) (ch : Octet) (p l : Word) : (enterError c ch p l s).errLen = l := rfl
@[simp] theorem enterError_ie (c : ErrCause) (ch : Octet) (p l : Word) : (enterError c ch p l s).ie = s.ie := rfl
@[simp] theorem enterError_cmdRej (c : ErrCause) (ch : Octet) (p l : Word) : (enterError c ch p l s).cmdRej = s.cmdRej := rfl
@[simp] theorem enterError_reqBufEnc (c : ErrCause) (ch : Octet) (p l : Word) : (enterError c ch p l s).reqBufEnc = s.reqBufEnc := rfl
@[simp] theorem enterError_reqBufDec (c : ErrCause) (ch : Octet) (p l : Word) : (enterError c ch p l s).reqBufDec = s.reqBufDec := rfl
@[simp] theorem enterError_fwd (c : ErrCause) (ch : Octet) (p l : Word) : (enterError c ch p l s).fwd = s.fwd := rfl
@[simp] theorem enterError_rev (c : ErrCause) (ch : Octet) (p l : Word) : (enterError c ch p l s).rev = s.rev := rfl
@[simp] theorem enterError_env (c : ErrCause) (ch : Octet) (p l : Word) : (enterError c ch p l s).env = s.env := rfl
@[simp] theorem enterError_freeCount (c : ErrCause) (ch : Octet) (p l : Word) : (enterError c ch p l s).freeCount = s.freeCount := rfl

/-! ## clearErrors -/

@[simp] theorem clearErrors_params : (clearErrors s).params = s.params := rfl
@[simp] theorem clearErrors_state : (clearErrors s).state = s.state := rfl
@[simp] theorem clearErrors_mode : (clearErrors s).mode = s.mode := rfl
@[simp] theorem clearErrors_eff : (clearErrors s).eff = s.eff := rfl
@[simp] theorem clearErrors_buf : (clearErrors s).buf = s.buf := rfl
@[simp] theorem clearErrors_cnt : (clearErrors s).cnt = s.cnt := rfl
@[simp] theorem clearErrors_eofSeen : (clearErrors s).eofSeen = s.eofSeen := rfl
@[simp] theorem clearErrors_obuf : (clearErrors s).obuf = s.obuf := rfl
@[simp] theorem clearErrors_ocnt : (clearErrors s).ocnt = s.ocnt := rfl
@[simp] theorem clearErrors_optr : (clearErrors s).optr = s.optr := rfl
@[simp] theorem clearErrors_inCount : (clearErrors s).inCount = s.inCount := rfl
@[simp] theorem clearErrors_outCount : (clearErrors s).outCount = s.outCount := rfl
@[simp] theorem clearErrors_chunkCount : (clearErrors s).chunkCount = s.chunkCount := rfl
@[simp] theorem clearErrors_errCode : (clearErrors s).errCode = 0#4 := rfl
@[simp] theorem clearErrors_errChar : (clearErrors s).errChar = 0#8 := rfl
@[simp] theorem clearErrors_errPos : (clearErrors s).errPos = 0#32 := rfl
@[simp] theorem clearErrors_errLen : (clearErrors s).errLen = 0#32 := rfl
@[simp] theorem clearErrors_ie : (clearErrors s).ie = s.ie := rfl
@[simp] theorem clearErrors_cmdRej : (clearErrors s).cmdRej = s.cmdRej := rfl
@[simp] theorem clearErrors_reqBufEnc : (clearErrors s).reqBufEnc = s.reqBufEnc := rfl
@[simp] theorem clearErrors_reqBufDec : (clearErrors s).reqBufDec = s.reqBufDec := rfl
@[simp] theorem clearErrors_fwd : (clearErrors s).fwd = s.fwd := rfl
@[simp] theorem clearErrors_rev : (clearErrors s).rev = s.rev := rfl
@[simp] theorem clearErrors_env : (clearErrors s).env = s.env := rfl
@[simp] theorem clearErrors_freeCount : (clearErrors s).freeCount = s.freeCount := rfl

/-! ## toIdle -/

@[simp] theorem toIdle_params : (toIdle s).params = s.params := rfl
@[simp] theorem toIdle_state : (toIdle s).state = .idle := rfl
@[simp] theorem toIdle_mode : (toIdle s).mode = s.mode := rfl
@[simp] theorem toIdle_eff : (toIdle s).eff = s.eff := rfl
@[simp] theorem toIdle_buf : (toIdle s).buf = s.buf := rfl
@[simp] theorem toIdle_cnt : (toIdle s).cnt = s.cnt := rfl
@[simp] theorem toIdle_eofSeen : (toIdle s).eofSeen = s.eofSeen := rfl
@[simp] theorem toIdle_obuf : (toIdle s).obuf = s.obuf := rfl
@[simp] theorem toIdle_ocnt : (toIdle s).ocnt = s.ocnt := rfl
@[simp] theorem toIdle_optr : (toIdle s).optr = s.optr := rfl
@[simp] theorem toIdle_inCount : (toIdle s).inCount = s.inCount := rfl
@[simp] theorem toIdle_outCount : (toIdle s).outCount = s.outCount := rfl
@[simp] theorem toIdle_chunkCount : (toIdle s).chunkCount = s.chunkCount := rfl
@[simp] theorem toIdle_errCode : (toIdle s).errCode = 0#4 := rfl
@[simp] theorem toIdle_errChar : (toIdle s).errChar = 0#8 := rfl
@[simp] theorem toIdle_errPos : (toIdle s).errPos = 0#32 := rfl
@[simp] theorem toIdle_errLen : (toIdle s).errLen = 0#32 := rfl
@[simp] theorem toIdle_ie : (toIdle s).ie = s.ie := rfl
@[simp] theorem toIdle_cmdRej : (toIdle s).cmdRej = s.cmdRej := rfl
@[simp] theorem toIdle_reqBufEnc : (toIdle s).reqBufEnc = s.reqBufEnc := rfl
@[simp] theorem toIdle_reqBufDec : (toIdle s).reqBufDec = s.reqBufDec := rfl
@[simp] theorem toIdle_fwd : (toIdle s).fwd = s.fwd := rfl
@[simp] theorem toIdle_rev : (toIdle s).rev = s.rev := rfl
@[simp] theorem toIdle_env : (toIdle s).env = s.env := rfl
@[simp] theorem toIdle_freeCount : (toIdle s).freeCount = s.freeCount := rfl

/-! ## startTranscode -/

@[simp] theorem startTranscode_params (m : Mode) : (startTranscode m s).params = s.params := rfl
@[simp] theorem startTranscode_state (m : Mode) : (startTranscode m s).state = .fill := rfl
@[simp] theorem startTranscode_mode (m : Mode) : (startTranscode m s).mode = m := rfl
@[simp] theorem startTranscode_eff (m : Mode) : (startTranscode m s).eff = BitVec.ofNat 32 (effectiveSize (groupSize m) (request m s).toNat s.params.bufSize) := rfl
@[simp] theorem startTranscode_buf (m : Mode) : (startTranscode m s).buf = s.buf := rfl
@[simp] theorem startTranscode_cnt (m : Mode) : (startTranscode m s).cnt = 0 := rfl
@[simp] theorem startTranscode_eofSeen (m : Mode) : (startTranscode m s).eofSeen = false := rfl
@[simp] theorem startTranscode_obuf (m : Mode) : (startTranscode m s).obuf = s.obuf := rfl
@[simp] theorem startTranscode_ocnt (m : Mode) : (startTranscode m s).ocnt = 0 := rfl
@[simp] theorem startTranscode_optr (m : Mode) : (startTranscode m s).optr = 0 := rfl
@[simp] theorem startTranscode_inCount (m : Mode) : (startTranscode m s).inCount = 0#32 := rfl
@[simp] theorem startTranscode_outCount (m : Mode) : (startTranscode m s).outCount = 0#32 := rfl
@[simp] theorem startTranscode_chunkCount (m : Mode) : (startTranscode m s).chunkCount = 0#32 := rfl
@[simp] theorem startTranscode_errCode (m : Mode) : (startTranscode m s).errCode = 0#4 := rfl
@[simp] theorem startTranscode_errChar (m : Mode) : (startTranscode m s).errChar = 0#8 := rfl
@[simp] theorem startTranscode_errPos (m : Mode) : (startTranscode m s).errPos = 0#32 := rfl
@[simp] theorem startTranscode_errLen (m : Mode) : (startTranscode m s).errLen = 0#32 := rfl
@[simp] theorem startTranscode_ie (m : Mode) : (startTranscode m s).ie = s.ie := rfl
@[simp] theorem startTranscode_cmdRej (m : Mode) : (startTranscode m s).cmdRej = s.cmdRej := rfl
@[simp] theorem startTranscode_reqBufEnc (m : Mode) : (startTranscode m s).reqBufEnc = s.reqBufEnc := rfl
@[simp] theorem startTranscode_reqBufDec (m : Mode) : (startTranscode m s).reqBufDec = s.reqBufDec := rfl
@[simp] theorem startTranscode_fwd (m : Mode) : (startTranscode m s).fwd = s.fwd := rfl
@[simp] theorem startTranscode_rev (m : Mode) : (startTranscode m s).rev = s.rev := rfl
@[simp] theorem startTranscode_env (m : Mode) : (startTranscode m s).env = s.env := rfl
@[simp] theorem startTranscode_freeCount (m : Mode) : (startTranscode m s).freeCount = s.freeCount := rfl

/-! ## rejectCommand -/

@[simp] theorem rejectCommand_params : (rejectCommand s).params = s.params := rfl
@[simp] theorem rejectCommand_state : (rejectCommand s).state = s.state := rfl
@[simp] theorem rejectCommand_mode : (rejectCommand s).mode = s.mode := rfl
@[simp] theorem rejectCommand_eff : (rejectCommand s).eff = s.eff := rfl
@[simp] theorem rejectCommand_buf : (rejectCommand s).buf = s.buf := rfl
@[simp] theorem rejectCommand_cnt : (rejectCommand s).cnt = s.cnt := rfl
@[simp] theorem rejectCommand_eofSeen : (rejectCommand s).eofSeen = s.eofSeen := rfl
@[simp] theorem rejectCommand_obuf : (rejectCommand s).obuf = s.obuf := rfl
@[simp] theorem rejectCommand_ocnt : (rejectCommand s).ocnt = s.ocnt := rfl
@[simp] theorem rejectCommand_optr : (rejectCommand s).optr = s.optr := rfl
@[simp] theorem rejectCommand_inCount : (rejectCommand s).inCount = s.inCount := rfl
@[simp] theorem rejectCommand_outCount : (rejectCommand s).outCount = s.outCount := rfl
@[simp] theorem rejectCommand_chunkCount : (rejectCommand s).chunkCount = s.chunkCount := rfl
@[simp] theorem rejectCommand_errCode : (rejectCommand s).errCode = s.errCode := rfl
@[simp] theorem rejectCommand_errChar : (rejectCommand s).errChar = s.errChar := rfl
@[simp] theorem rejectCommand_errPos : (rejectCommand s).errPos = s.errPos := rfl
@[simp] theorem rejectCommand_errLen : (rejectCommand s).errLen = s.errLen := rfl
@[simp] theorem rejectCommand_ie : (rejectCommand s).ie = s.ie := rfl
@[simp] theorem rejectCommand_cmdRej : (rejectCommand s).cmdRej = true := rfl
@[simp] theorem rejectCommand_reqBufEnc : (rejectCommand s).reqBufEnc = s.reqBufEnc := rfl
@[simp] theorem rejectCommand_reqBufDec : (rejectCommand s).reqBufDec = s.reqBufDec := rfl
@[simp] theorem rejectCommand_fwd : (rejectCommand s).fwd = s.fwd := rfl
@[simp] theorem rejectCommand_rev : (rejectCommand s).rev = s.rev := rfl
@[simp] theorem rejectCommand_env : (rejectCommand s).env = s.env := rfl
@[simp] theorem rejectCommand_freeCount : (rejectCommand s).freeCount = s.freeCount := rfl

/-! ## endOfChunk -/

@[simp] theorem endOfChunk_params : (endOfChunk s).params = s.params := rfl
@[simp] theorem endOfChunk_state : (endOfChunk s).state = if s.eofSeen then .done else .fill := rfl
@[simp] theorem endOfChunk_mode : (endOfChunk s).mode = s.mode := rfl
@[simp] theorem endOfChunk_eff : (endOfChunk s).eff = s.eff := rfl
@[simp] theorem endOfChunk_buf : (endOfChunk s).buf = s.buf := rfl
@[simp] theorem endOfChunk_cnt : (endOfChunk s).cnt = 0 := rfl
@[simp] theorem endOfChunk_eofSeen : (endOfChunk s).eofSeen = s.eofSeen := rfl
@[simp] theorem endOfChunk_obuf : (endOfChunk s).obuf = s.obuf := rfl
@[simp] theorem endOfChunk_ocnt : (endOfChunk s).ocnt = 0 := rfl
@[simp] theorem endOfChunk_optr : (endOfChunk s).optr = 0 := rfl
@[simp] theorem endOfChunk_inCount : (endOfChunk s).inCount = s.inCount := rfl
@[simp] theorem endOfChunk_outCount : (endOfChunk s).outCount = s.outCount := rfl
@[simp] theorem endOfChunk_chunkCount : (endOfChunk s).chunkCount = s.chunkCount := rfl
@[simp] theorem endOfChunk_errCode : (endOfChunk s).errCode = s.errCode := rfl
@[simp] theorem endOfChunk_errChar : (endOfChunk s).errChar = s.errChar := rfl
@[simp] theorem endOfChunk_errPos : (endOfChunk s).errPos = s.errPos := rfl
@[simp] theorem endOfChunk_errLen : (endOfChunk s).errLen = s.errLen := rfl
@[simp] theorem endOfChunk_ie : (endOfChunk s).ie = s.ie := rfl
@[simp] theorem endOfChunk_cmdRej : (endOfChunk s).cmdRej = s.cmdRej := rfl
@[simp] theorem endOfChunk_reqBufEnc : (endOfChunk s).reqBufEnc = s.reqBufEnc := rfl
@[simp] theorem endOfChunk_reqBufDec : (endOfChunk s).reqBufDec = s.reqBufDec := rfl
@[simp] theorem endOfChunk_fwd : (endOfChunk s).fwd = s.fwd := rfl
@[simp] theorem endOfChunk_rev : (endOfChunk s).rev = s.rev := rfl
@[simp] theorem endOfChunk_env : (endOfChunk s).env = s.env := rfl
@[simp] theorem endOfChunk_freeCount : (endOfChunk s).freeCount = s.freeCount := rfl

/-! ## acceptOctet -/

@[simp] theorem acceptOctet_params (m : Memory) : (acceptOctet m s).params = s.params := rfl
@[simp] theorem acceptOctet_state (m : Memory) : (acceptOctet m s).state = if s.cnt + 1 = s.eff.toNat then .process else s.state := rfl
@[simp] theorem acceptOctet_mode (m : Memory) : (acceptOctet m s).mode = s.mode := rfl
@[simp] theorem acceptOctet_eff (m : Memory) : (acceptOctet m s).eff = s.eff := rfl
@[simp] theorem acceptOctet_buf (m : Memory) : (acceptOctet m s).buf = m := rfl
@[simp] theorem acceptOctet_cnt (m : Memory) : (acceptOctet m s).cnt = s.cnt + 1 := rfl
@[simp] theorem acceptOctet_eofSeen (m : Memory) : (acceptOctet m s).eofSeen = s.eofSeen := rfl
@[simp] theorem acceptOctet_obuf (m : Memory) : (acceptOctet m s).obuf = s.obuf := rfl
@[simp] theorem acceptOctet_ocnt (m : Memory) : (acceptOctet m s).ocnt = s.ocnt := rfl
@[simp] theorem acceptOctet_optr (m : Memory) : (acceptOctet m s).optr = s.optr := rfl
@[simp] theorem acceptOctet_inCount (m : Memory) : (acceptOctet m s).inCount = s.inCount + 1#32 := rfl
@[simp] theorem acceptOctet_outCount (m : Memory) : (acceptOctet m s).outCount = s.outCount := rfl
@[simp] theorem acceptOctet_chunkCount (m : Memory) : (acceptOctet m s).chunkCount = s.chunkCount := rfl
@[simp] theorem acceptOctet_errCode (m : Memory) : (acceptOctet m s).errCode = s.errCode := rfl
@[simp] theorem acceptOctet_errChar (m : Memory) : (acceptOctet m s).errChar = s.errChar := rfl
@[simp] theorem acceptOctet_errPos (m : Memory) : (acceptOctet m s).errPos = s.errPos := rfl
@[simp] theorem acceptOctet_errLen (m : Memory) : (acceptOctet m s).errLen = s.errLen := rfl
@[simp] theorem acceptOctet_ie (m : Memory) : (acceptOctet m s).ie = s.ie := rfl
@[simp] theorem acceptOctet_cmdRej (m : Memory) : (acceptOctet m s).cmdRej = s.cmdRej := rfl
@[simp] theorem acceptOctet_reqBufEnc (m : Memory) : (acceptOctet m s).reqBufEnc = s.reqBufEnc := rfl
@[simp] theorem acceptOctet_reqBufDec (m : Memory) : (acceptOctet m s).reqBufDec = s.reqBufDec := rfl
@[simp] theorem acceptOctet_fwd (m : Memory) : (acceptOctet m s).fwd = s.fwd := rfl
@[simp] theorem acceptOctet_rev (m : Memory) : (acceptOctet m s).rev = s.rev := rfl
@[simp] theorem acceptOctet_env (m : Memory) : (acceptOctet m s).env = s.env := rfl
@[simp] theorem acceptOctet_freeCount (m : Memory) : (acceptOctet m s).freeCount = s.freeCount := rfl

/-! ## endOfInput -/

@[simp] theorem endOfInput_params : (endOfInput s).params = s.params := rfl
@[simp] theorem endOfInput_state : (endOfInput s).state = if 0 < s.cnt then .process else .done := rfl
@[simp] theorem endOfInput_mode : (endOfInput s).mode = s.mode := rfl
@[simp] theorem endOfInput_eff : (endOfInput s).eff = s.eff := rfl
@[simp] theorem endOfInput_buf : (endOfInput s).buf = s.buf := rfl
@[simp] theorem endOfInput_cnt : (endOfInput s).cnt = s.cnt := rfl
@[simp] theorem endOfInput_eofSeen : (endOfInput s).eofSeen = true := rfl
@[simp] theorem endOfInput_obuf : (endOfInput s).obuf = s.obuf := rfl
@[simp] theorem endOfInput_ocnt : (endOfInput s).ocnt = s.ocnt := rfl
@[simp] theorem endOfInput_optr : (endOfInput s).optr = s.optr := rfl
@[simp] theorem endOfInput_inCount : (endOfInput s).inCount = s.inCount := rfl
@[simp] theorem endOfInput_outCount : (endOfInput s).outCount = s.outCount := rfl
@[simp] theorem endOfInput_chunkCount : (endOfInput s).chunkCount = s.chunkCount := rfl
@[simp] theorem endOfInput_errCode : (endOfInput s).errCode = s.errCode := rfl
@[simp] theorem endOfInput_errChar : (endOfInput s).errChar = s.errChar := rfl
@[simp] theorem endOfInput_errPos : (endOfInput s).errPos = s.errPos := rfl
@[simp] theorem endOfInput_errLen : (endOfInput s).errLen = s.errLen := rfl
@[simp] theorem endOfInput_ie : (endOfInput s).ie = s.ie := rfl
@[simp] theorem endOfInput_cmdRej : (endOfInput s).cmdRej = s.cmdRej := rfl
@[simp] theorem endOfInput_reqBufEnc : (endOfInput s).reqBufEnc = s.reqBufEnc := rfl
@[simp] theorem endOfInput_reqBufDec : (endOfInput s).reqBufDec = s.reqBufDec := rfl
@[simp] theorem endOfInput_fwd : (endOfInput s).fwd = s.fwd := rfl
@[simp] theorem endOfInput_rev : (endOfInput s).rev = s.rev := rfl
@[simp] theorem endOfInput_env : (endOfInput s).env = s.env := rfl
@[simp] theorem endOfInput_freeCount : (endOfInput s).freeCount = s.freeCount := rfl

/-! ## offerChunk -/

@[simp] theorem offerChunk_params (m : Memory) (n : Nat) : (offerChunk m n s).params = s.params := rfl
@[simp] theorem offerChunk_state (m : Memory) (n : Nat) : (offerChunk m n s).state = .drain := rfl
@[simp] theorem offerChunk_mode (m : Memory) (n : Nat) : (offerChunk m n s).mode = s.mode := rfl
@[simp] theorem offerChunk_eff (m : Memory) (n : Nat) : (offerChunk m n s).eff = s.eff := rfl
@[simp] theorem offerChunk_buf (m : Memory) (n : Nat) : (offerChunk m n s).buf = s.buf := rfl
@[simp] theorem offerChunk_cnt (m : Memory) (n : Nat) : (offerChunk m n s).cnt = s.cnt := rfl
@[simp] theorem offerChunk_eofSeen (m : Memory) (n : Nat) : (offerChunk m n s).eofSeen = s.eofSeen := rfl
@[simp] theorem offerChunk_obuf (m : Memory) (n : Nat) : (offerChunk m n s).obuf = m := rfl
@[simp] theorem offerChunk_ocnt (m : Memory) (n : Nat) : (offerChunk m n s).ocnt = n := rfl
@[simp] theorem offerChunk_optr (m : Memory) (n : Nat) : (offerChunk m n s).optr = 0 := rfl
@[simp] theorem offerChunk_inCount (m : Memory) (n : Nat) : (offerChunk m n s).inCount = s.inCount := rfl
@[simp] theorem offerChunk_outCount (m : Memory) (n : Nat) : (offerChunk m n s).outCount = s.outCount := rfl
@[simp] theorem offerChunk_chunkCount (m : Memory) (n : Nat) : (offerChunk m n s).chunkCount = s.chunkCount + 1#32 := rfl
@[simp] theorem offerChunk_errCode (m : Memory) (n : Nat) : (offerChunk m n s).errCode = s.errCode := rfl
@[simp] theorem offerChunk_errChar (m : Memory) (n : Nat) : (offerChunk m n s).errChar = s.errChar := rfl
@[simp] theorem offerChunk_errPos (m : Memory) (n : Nat) : (offerChunk m n s).errPos = s.errPos := rfl
@[simp] theorem offerChunk_errLen (m : Memory) (n : Nat) : (offerChunk m n s).errLen = s.errLen := rfl
@[simp] theorem offerChunk_ie (m : Memory) (n : Nat) : (offerChunk m n s).ie = s.ie := rfl
@[simp] theorem offerChunk_cmdRej (m : Memory) (n : Nat) : (offerChunk m n s).cmdRej = s.cmdRej := rfl
@[simp] theorem offerChunk_reqBufEnc (m : Memory) (n : Nat) : (offerChunk m n s).reqBufEnc = s.reqBufEnc := rfl
@[simp] theorem offerChunk_reqBufDec (m : Memory) (n : Nat) : (offerChunk m n s).reqBufDec = s.reqBufDec := rfl
@[simp] theorem offerChunk_fwd (m : Memory) (n : Nat) : (offerChunk m n s).fwd = s.fwd := rfl
@[simp] theorem offerChunk_rev (m : Memory) (n : Nat) : (offerChunk m n s).rev = s.rev := rfl
@[simp] theorem offerChunk_env (m : Memory) (n : Nat) : (offerChunk m n s).env = s.env := rfl
@[simp] theorem offerChunk_freeCount (m : Memory) (n : Nat) : (offerChunk m n s).freeCount = s.freeCount := rfl

/-! ## giveOctet -/

@[simp] theorem giveOctet_params (b : Octet) : (giveOctet b s).params = s.params := rfl
@[simp] theorem giveOctet_state (b : Octet) : (giveOctet b s).state = s.state := rfl
@[simp] theorem giveOctet_mode (b : Octet) : (giveOctet b s).mode = s.mode := rfl
@[simp] theorem giveOctet_eff (b : Octet) : (giveOctet b s).eff = s.eff := rfl
@[simp] theorem giveOctet_buf (b : Octet) : (giveOctet b s).buf = s.buf := rfl
@[simp] theorem giveOctet_cnt (b : Octet) : (giveOctet b s).cnt = s.cnt := rfl
@[simp] theorem giveOctet_eofSeen (b : Octet) : (giveOctet b s).eofSeen = s.eofSeen := rfl
@[simp] theorem giveOctet_obuf (b : Octet) : (giveOctet b s).obuf = s.obuf := rfl
@[simp] theorem giveOctet_ocnt (b : Octet) : (giveOctet b s).ocnt = s.ocnt := rfl
@[simp] theorem giveOctet_optr (b : Octet) : (giveOctet b s).optr = s.optr + 1 := rfl
@[simp] theorem giveOctet_inCount (b : Octet) : (giveOctet b s).inCount = s.inCount := rfl
@[simp] theorem giveOctet_outCount (b : Octet) : (giveOctet b s).outCount = s.outCount + 1#32 := rfl
@[simp] theorem giveOctet_chunkCount (b : Octet) : (giveOctet b s).chunkCount = s.chunkCount := rfl
@[simp] theorem giveOctet_errCode (b : Octet) : (giveOctet b s).errCode = s.errCode := rfl
@[simp] theorem giveOctet_errChar (b : Octet) : (giveOctet b s).errChar = s.errChar := rfl
@[simp] theorem giveOctet_errPos (b : Octet) : (giveOctet b s).errPos = s.errPos := rfl
@[simp] theorem giveOctet_errLen (b : Octet) : (giveOctet b s).errLen = s.errLen := rfl
@[simp] theorem giveOctet_ie (b : Octet) : (giveOctet b s).ie = s.ie := rfl
@[simp] theorem giveOctet_cmdRej (b : Octet) : (giveOctet b s).cmdRej = s.cmdRej := rfl
@[simp] theorem giveOctet_reqBufEnc (b : Octet) : (giveOctet b s).reqBufEnc = s.reqBufEnc := rfl
@[simp] theorem giveOctet_reqBufDec (b : Octet) : (giveOctet b s).reqBufDec = s.reqBufDec := rfl
@[simp] theorem giveOctet_fwd (b : Octet) : (giveOctet b s).fwd = s.fwd := rfl
@[simp] theorem giveOctet_rev (b : Octet) : (giveOctet b s).rev = s.rev := rfl
@[simp] theorem giveOctet_env_turns (b : Octet) : (giveOctet b s).env.turns = s.env.turns := rfl
@[simp] theorem giveOctet_env_busQ (b : Octet) : (giveOctet b s).env.busQ = s.env.busQ := rfl
@[simp] theorem giveOctet_env_srcQ (b : Octet) : (giveOctet b s).env.srcQ = s.env.srcQ := rfl
@[simp] theorem giveOctet_env_snkQ (b : Octet) : (giveOctet b s).env.snkQ = s.env.snkQ := rfl
@[simp] theorem giveOctet_env_gopQ (b : Octet) : (giveOctet b s).env.gopQ = s.env.gopQ := rfl
@[simp] theorem giveOctet_env_rdata (b : Octet) : (giveOctet b s).env.rdata = s.env.rdata := rfl
@[simp] theorem giveOctet_env_delivered (b : Octet) : (giveOctet b s).env.delivered = s.env.delivered ++ [b] := rfl
@[simp] theorem giveOctet_env_gopOut (b : Octet) : (giveOctet b s).env.gopOut = s.env.gopOut := rfl
@[simp] theorem giveOctet_freeCount (b : Octet) : (giveOctet b s).freeCount = s.freeCount := rfl

/-! ## keepPending -/

@[simp] theorem keepPending_params (b : BitVec 10) : (keepPending b s).params = s.params := rfl
@[simp] theorem keepPending_state (b : BitVec 10) : (keepPending b s).state = s.state := rfl
@[simp] theorem keepPending_mode (b : BitVec 10) : (keepPending b s).mode = s.mode := rfl
@[simp] theorem keepPending_eff (b : BitVec 10) : (keepPending b s).eff = s.eff := rfl
@[simp] theorem keepPending_buf (b : BitVec 10) : (keepPending b s).buf = s.buf := rfl
@[simp] theorem keepPending_cnt (b : BitVec 10) : (keepPending b s).cnt = s.cnt := rfl
@[simp] theorem keepPending_eofSeen (b : BitVec 10) : (keepPending b s).eofSeen = s.eofSeen := rfl
@[simp] theorem keepPending_obuf (b : BitVec 10) : (keepPending b s).obuf = s.obuf := rfl
@[simp] theorem keepPending_ocnt (b : BitVec 10) : (keepPending b s).ocnt = s.ocnt := rfl
@[simp] theorem keepPending_optr (b : BitVec 10) : (keepPending b s).optr = s.optr := rfl
@[simp] theorem keepPending_inCount (b : BitVec 10) : (keepPending b s).inCount = s.inCount := rfl
@[simp] theorem keepPending_outCount (b : BitVec 10) : (keepPending b s).outCount = s.outCount := rfl
@[simp] theorem keepPending_chunkCount (b : BitVec 10) : (keepPending b s).chunkCount = s.chunkCount := rfl
@[simp] theorem keepPending_errCode (b : BitVec 10) : (keepPending b s).errCode = s.errCode := rfl
@[simp] theorem keepPending_errChar (b : BitVec 10) : (keepPending b s).errChar = s.errChar := rfl
@[simp] theorem keepPending_errPos (b : BitVec 10) : (keepPending b s).errPos = s.errPos := rfl
@[simp] theorem keepPending_errLen (b : BitVec 10) : (keepPending b s).errLen = s.errLen := rfl
@[simp] theorem keepPending_ie (b : BitVec 10) : (keepPending b s).ie = s.ie := rfl
@[simp] theorem keepPending_cmdRej (b : BitVec 10) : (keepPending b s).cmdRej = s.cmdRej := rfl
@[simp] theorem keepPending_reqBufEnc (b : BitVec 10) : (keepPending b s).reqBufEnc = s.reqBufEnc := rfl
@[simp] theorem keepPending_reqBufDec (b : BitVec 10) : (keepPending b s).reqBufDec = s.reqBufDec := rfl
@[simp] theorem keepPending_fwd (b : BitVec 10) : (keepPending b s).fwd = s.fwd := rfl
@[simp] theorem keepPending_rev (b : BitVec 10) : (keepPending b s).rev = s.rev := rfl
@[simp] theorem keepPending_env_turns (b : BitVec 10) : (keepPending b s).env.turns = s.env.turns := rfl
@[simp] theorem keepPending_env_busQ (b : BitVec 10) : (keepPending b s).env.busQ = s.env.busQ := rfl
@[simp] theorem keepPending_env_srcQ (b : BitVec 10) : (keepPending b s).env.srcQ = b :: s.env.srcQ := rfl
@[simp] theorem keepPending_env_snkQ (b : BitVec 10) : (keepPending b s).env.snkQ = s.env.snkQ := rfl
@[simp] theorem keepPending_env_gopQ (b : BitVec 10) : (keepPending b s).env.gopQ = s.env.gopQ := rfl
@[simp] theorem keepPending_env_rdata (b : BitVec 10) : (keepPending b s).env.rdata = s.env.rdata := rfl
@[simp] theorem keepPending_env_delivered (b : BitVec 10) : (keepPending b s).env.delivered = s.env.delivered := rfl
@[simp] theorem keepPending_env_gopOut (b : BitVec 10) : (keepPending b s).env.gopOut = s.env.gopOut := rfl
@[simp] theorem keepPending_freeCount (b : BitVec 10) : (keepPending b s).freeCount = s.freeCount := rfl

/-! ## answerRead -/

@[simp] theorem answerRead_params (v : Word) : (answerRead v s).params = s.params := rfl
@[simp] theorem answerRead_state (v : Word) : (answerRead v s).state = s.state := rfl
@[simp] theorem answerRead_mode (v : Word) : (answerRead v s).mode = s.mode := rfl
@[simp] theorem answerRead_eff (v : Word) : (answerRead v s).eff = s.eff := rfl
@[simp] theorem answerRead_buf (v : Word) : (answerRead v s).buf = s.buf := rfl
@[simp] theorem answerRead_cnt (v : Word) : (answerRead v s).cnt = s.cnt := rfl
@[simp] theorem answerRead_eofSeen (v : Word) : (answerRead v s).eofSeen = s.eofSeen := rfl
@[simp] theorem answerRead_obuf (v : Word) : (answerRead v s).obuf = s.obuf := rfl
@[simp] theorem answerRead_ocnt (v : Word) : (answerRead v s).ocnt = s.ocnt := rfl
@[simp] theorem answerRead_optr (v : Word) : (answerRead v s).optr = s.optr := rfl
@[simp] theorem answerRead_inCount (v : Word) : (answerRead v s).inCount = s.inCount := rfl
@[simp] theorem answerRead_outCount (v : Word) : (answerRead v s).outCount = s.outCount := rfl
@[simp] theorem answerRead_chunkCount (v : Word) : (answerRead v s).chunkCount = s.chunkCount := rfl
@[simp] theorem answerRead_errCode (v : Word) : (answerRead v s).errCode = s.errCode := rfl
@[simp] theorem answerRead_errChar (v : Word) : (answerRead v s).errChar = s.errChar := rfl
@[simp] theorem answerRead_errPos (v : Word) : (answerRead v s).errPos = s.errPos := rfl
@[simp] theorem answerRead_errLen (v : Word) : (answerRead v s).errLen = s.errLen := rfl
@[simp] theorem answerRead_ie (v : Word) : (answerRead v s).ie = s.ie := rfl
@[simp] theorem answerRead_cmdRej (v : Word) : (answerRead v s).cmdRej = s.cmdRej := rfl
@[simp] theorem answerRead_reqBufEnc (v : Word) : (answerRead v s).reqBufEnc = s.reqBufEnc := rfl
@[simp] theorem answerRead_reqBufDec (v : Word) : (answerRead v s).reqBufDec = s.reqBufDec := rfl
@[simp] theorem answerRead_fwd (v : Word) : (answerRead v s).fwd = s.fwd := rfl
@[simp] theorem answerRead_rev (v : Word) : (answerRead v s).rev = s.rev := rfl
@[simp] theorem answerRead_env_turns (v : Word) : (answerRead v s).env.turns = s.env.turns := rfl
@[simp] theorem answerRead_env_busQ (v : Word) : (answerRead v s).env.busQ = s.env.busQ := rfl
@[simp] theorem answerRead_env_srcQ (v : Word) : (answerRead v s).env.srcQ = s.env.srcQ := rfl
@[simp] theorem answerRead_env_snkQ (v : Word) : (answerRead v s).env.snkQ = s.env.snkQ := rfl
@[simp] theorem answerRead_env_gopQ (v : Word) : (answerRead v s).env.gopQ = s.env.gopQ := rfl
@[simp] theorem answerRead_env_rdata (v : Word) : (answerRead v s).env.rdata = v := rfl
@[simp] theorem answerRead_env_delivered (v : Word) : (answerRead v s).env.delivered = s.env.delivered := rfl
@[simp] theorem answerRead_env_gopOut (v : Word) : (answerRead v s).env.gopOut = s.env.gopOut := rfl
@[simp] theorem answerRead_freeCount (v : Word) : (answerRead v s).freeCount = s.freeCount := rfl

/-! ## answerGroup -/

@[simp] theorem answerGroup_params (o : List Octet) : (answerGroup o s).params = s.params := rfl
@[simp] theorem answerGroup_state (o : List Octet) : (answerGroup o s).state = s.state := rfl
@[simp] theorem answerGroup_mode (o : List Octet) : (answerGroup o s).mode = s.mode := rfl
@[simp] theorem answerGroup_eff (o : List Octet) : (answerGroup o s).eff = s.eff := rfl
@[simp] theorem answerGroup_buf (o : List Octet) : (answerGroup o s).buf = s.buf := rfl
@[simp] theorem answerGroup_cnt (o : List Octet) : (answerGroup o s).cnt = s.cnt := rfl
@[simp] theorem answerGroup_eofSeen (o : List Octet) : (answerGroup o s).eofSeen = s.eofSeen := rfl
@[simp] theorem answerGroup_obuf (o : List Octet) : (answerGroup o s).obuf = s.obuf := rfl
@[simp] theorem answerGroup_ocnt (o : List Octet) : (answerGroup o s).ocnt = s.ocnt := rfl
@[simp] theorem answerGroup_optr (o : List Octet) : (answerGroup o s).optr = s.optr := rfl
@[simp] theorem answerGroup_inCount (o : List Octet) : (answerGroup o s).inCount = s.inCount := rfl
@[simp] theorem answerGroup_outCount (o : List Octet) : (answerGroup o s).outCount = s.outCount := rfl
@[simp] theorem answerGroup_chunkCount (o : List Octet) : (answerGroup o s).chunkCount = s.chunkCount := rfl
@[simp] theorem answerGroup_errCode (o : List Octet) : (answerGroup o s).errCode = s.errCode := rfl
@[simp] theorem answerGroup_errChar (o : List Octet) : (answerGroup o s).errChar = s.errChar := rfl
@[simp] theorem answerGroup_errPos (o : List Octet) : (answerGroup o s).errPos = s.errPos := rfl
@[simp] theorem answerGroup_errLen (o : List Octet) : (answerGroup o s).errLen = s.errLen := rfl
@[simp] theorem answerGroup_ie (o : List Octet) : (answerGroup o s).ie = s.ie := rfl
@[simp] theorem answerGroup_cmdRej (o : List Octet) : (answerGroup o s).cmdRej = s.cmdRej := rfl
@[simp] theorem answerGroup_reqBufEnc (o : List Octet) : (answerGroup o s).reqBufEnc = s.reqBufEnc := rfl
@[simp] theorem answerGroup_reqBufDec (o : List Octet) : (answerGroup o s).reqBufDec = s.reqBufDec := rfl
@[simp] theorem answerGroup_fwd (o : List Octet) : (answerGroup o s).fwd = s.fwd := rfl
@[simp] theorem answerGroup_rev (o : List Octet) : (answerGroup o s).rev = s.rev := rfl
@[simp] theorem answerGroup_env_turns (o : List Octet) : (answerGroup o s).env.turns = s.env.turns := rfl
@[simp] theorem answerGroup_env_busQ (o : List Octet) : (answerGroup o s).env.busQ = s.env.busQ := rfl
@[simp] theorem answerGroup_env_srcQ (o : List Octet) : (answerGroup o s).env.srcQ = s.env.srcQ := rfl
@[simp] theorem answerGroup_env_snkQ (o : List Octet) : (answerGroup o s).env.snkQ = s.env.snkQ := rfl
@[simp] theorem answerGroup_env_gopQ (o : List Octet) : (answerGroup o s).env.gopQ = s.env.gopQ := rfl
@[simp] theorem answerGroup_env_rdata (o : List Octet) : (answerGroup o s).env.rdata = s.env.rdata := rfl
@[simp] theorem answerGroup_env_delivered (o : List Octet) : (answerGroup o s).env.delivered = s.env.delivered := rfl
@[simp] theorem answerGroup_env_gopOut (o : List Octet) : (answerGroup o s).env.gopOut = o := rfl
@[simp] theorem answerGroup_freeCount (o : List Octet) : (answerGroup o s).freeCount = s.freeCount := rfl

/-! ## answerDecode -/

@[simp] theorem answerDecode_params (o : List Octet) : (answerDecode o s).params = s.params := rfl
@[simp] theorem answerDecode_state (o : List Octet) : (answerDecode o s).state = s.state := rfl
@[simp] theorem answerDecode_mode (o : List Octet) : (answerDecode o s).mode = s.mode := rfl
@[simp] theorem answerDecode_eff (o : List Octet) : (answerDecode o s).eff = s.eff := rfl
@[simp] theorem answerDecode_buf (o : List Octet) : (answerDecode o s).buf = s.buf := rfl
@[simp] theorem answerDecode_cnt (o : List Octet) : (answerDecode o s).cnt = s.cnt := rfl
@[simp] theorem answerDecode_eofSeen (o : List Octet) : (answerDecode o s).eofSeen = s.eofSeen := rfl
@[simp] theorem answerDecode_obuf (o : List Octet) : (answerDecode o s).obuf = s.obuf := rfl
@[simp] theorem answerDecode_ocnt (o : List Octet) : (answerDecode o s).ocnt = s.ocnt := rfl
@[simp] theorem answerDecode_optr (o : List Octet) : (answerDecode o s).optr = s.optr := rfl
@[simp] theorem answerDecode_inCount (o : List Octet) : (answerDecode o s).inCount = s.inCount := rfl
@[simp] theorem answerDecode_outCount (o : List Octet) : (answerDecode o s).outCount = s.outCount := rfl
@[simp] theorem answerDecode_chunkCount (o : List Octet) : (answerDecode o s).chunkCount = s.chunkCount := rfl
@[simp] theorem answerDecode_errCode (o : List Octet) : (answerDecode o s).errCode = s.errCode := rfl
@[simp] theorem answerDecode_errChar (o : List Octet) : (answerDecode o s).errChar = s.errChar := rfl
@[simp] theorem answerDecode_errPos (o : List Octet) : (answerDecode o s).errPos = s.errPos := rfl
@[simp] theorem answerDecode_errLen (o : List Octet) : (answerDecode o s).errLen = s.errLen := rfl
@[simp] theorem answerDecode_ie (o : List Octet) : (answerDecode o s).ie = s.ie := rfl
@[simp] theorem answerDecode_cmdRej (o : List Octet) : (answerDecode o s).cmdRej = s.cmdRej := rfl
@[simp] theorem answerDecode_reqBufEnc (o : List Octet) : (answerDecode o s).reqBufEnc = s.reqBufEnc := rfl
@[simp] theorem answerDecode_reqBufDec (o : List Octet) : (answerDecode o s).reqBufDec = s.reqBufDec := rfl
@[simp] theorem answerDecode_fwd (o : List Octet) : (answerDecode o s).fwd = s.fwd := rfl
@[simp] theorem answerDecode_rev (o : List Octet) : (answerDecode o s).rev = s.rev := rfl
@[simp] theorem answerDecode_env_turns (o : List Octet) : (answerDecode o s).env.turns = s.env.turns := rfl
@[simp] theorem answerDecode_env_busQ (o : List Octet) : (answerDecode o s).env.busQ = s.env.busQ := rfl
@[simp] theorem answerDecode_env_srcQ (o : List Octet) : (answerDecode o s).env.srcQ = s.env.srcQ := rfl
@[simp] theorem answerDecode_env_snkQ (o : List Octet) : (answerDecode o s).env.snkQ = s.env.snkQ := rfl
@[simp] theorem answerDecode_env_gopQ (o : List Octet) : (answerDecode o s).env.gopQ = s.env.gopQ := rfl
@[simp] theorem answerDecode_env_rdata (o : List Octet) : (answerDecode o s).env.rdata = s.env.rdata := rfl
@[simp] theorem answerDecode_env_delivered (o : List Octet) : (answerDecode o s).env.delivered = s.env.delivered := rfl
@[simp] theorem answerDecode_env_gopOut (o : List Octet) : (answerDecode o s).env.gopOut = o := rfl
@[simp] theorem answerDecode_freeCount (o : List Octet) : (answerDecode o s).freeCount = s.freeCount + 4 := rfl

/-! ## dropTurn -/

@[simp] theorem dropTurn_params : (dropTurn s).params = s.params := rfl
@[simp] theorem dropTurn_state : (dropTurn s).state = s.state := rfl
@[simp] theorem dropTurn_mode : (dropTurn s).mode = s.mode := rfl
@[simp] theorem dropTurn_eff : (dropTurn s).eff = s.eff := rfl
@[simp] theorem dropTurn_buf : (dropTurn s).buf = s.buf := rfl
@[simp] theorem dropTurn_cnt : (dropTurn s).cnt = s.cnt := rfl
@[simp] theorem dropTurn_eofSeen : (dropTurn s).eofSeen = s.eofSeen := rfl
@[simp] theorem dropTurn_obuf : (dropTurn s).obuf = s.obuf := rfl
@[simp] theorem dropTurn_ocnt : (dropTurn s).ocnt = s.ocnt := rfl
@[simp] theorem dropTurn_optr : (dropTurn s).optr = s.optr := rfl
@[simp] theorem dropTurn_inCount : (dropTurn s).inCount = s.inCount := rfl
@[simp] theorem dropTurn_outCount : (dropTurn s).outCount = s.outCount := rfl
@[simp] theorem dropTurn_chunkCount : (dropTurn s).chunkCount = s.chunkCount := rfl
@[simp] theorem dropTurn_errCode : (dropTurn s).errCode = s.errCode := rfl
@[simp] theorem dropTurn_errChar : (dropTurn s).errChar = s.errChar := rfl
@[simp] theorem dropTurn_errPos : (dropTurn s).errPos = s.errPos := rfl
@[simp] theorem dropTurn_errLen : (dropTurn s).errLen = s.errLen := rfl
@[simp] theorem dropTurn_ie : (dropTurn s).ie = s.ie := rfl
@[simp] theorem dropTurn_cmdRej : (dropTurn s).cmdRej = s.cmdRej := rfl
@[simp] theorem dropTurn_reqBufEnc : (dropTurn s).reqBufEnc = s.reqBufEnc := rfl
@[simp] theorem dropTurn_reqBufDec : (dropTurn s).reqBufDec = s.reqBufDec := rfl
@[simp] theorem dropTurn_fwd : (dropTurn s).fwd = s.fwd := rfl
@[simp] theorem dropTurn_rev : (dropTurn s).rev = s.rev := rfl
@[simp] theorem dropTurn_env_turns : (dropTurn s).env.turns = s.env.turns.tail := rfl
@[simp] theorem dropTurn_env_busQ : (dropTurn s).env.busQ = s.env.busQ := rfl
@[simp] theorem dropTurn_env_srcQ : (dropTurn s).env.srcQ = s.env.srcQ := rfl
@[simp] theorem dropTurn_env_snkQ : (dropTurn s).env.snkQ = s.env.snkQ := rfl
@[simp] theorem dropTurn_env_gopQ : (dropTurn s).env.gopQ = s.env.gopQ := rfl
@[simp] theorem dropTurn_env_rdata : (dropTurn s).env.rdata = s.env.rdata := rfl
@[simp] theorem dropTurn_env_delivered : (dropTurn s).env.delivered = s.env.delivered := rfl
@[simp] theorem dropTurn_env_gopOut : (dropTurn s).env.gopOut = s.env.gopOut := rfl
@[simp] theorem dropTurn_freeCount : (dropTurn s).freeCount = s.freeCount := rfl

/-! ## resetBlock -/

@[simp] theorem resetBlock_params : (resetBlock s).params = s.params := rfl
@[simp] theorem resetBlock_state : (resetBlock s).state = .idle := rfl
@[simp] theorem resetBlock_mode : (resetBlock s).mode = .encode := rfl
@[simp] theorem resetBlock_eff : (resetBlock s).eff = 0#32 := rfl
@[simp] theorem resetBlock_buf : (resetBlock s).buf = [] := rfl
@[simp] theorem resetBlock_cnt : (resetBlock s).cnt = 0 := rfl
@[simp] theorem resetBlock_eofSeen : (resetBlock s).eofSeen = false := rfl
@[simp] theorem resetBlock_obuf : (resetBlock s).obuf = [] := rfl
@[simp] theorem resetBlock_ocnt : (resetBlock s).ocnt = 0 := rfl
@[simp] theorem resetBlock_optr : (resetBlock s).optr = 0 := rfl
@[simp] theorem resetBlock_inCount : (resetBlock s).inCount = 0#32 := rfl
@[simp] theorem resetBlock_outCount : (resetBlock s).outCount = 0#32 := rfl
@[simp] theorem resetBlock_chunkCount : (resetBlock s).chunkCount = 0#32 := rfl
@[simp] theorem resetBlock_errCode : (resetBlock s).errCode = 0#4 := rfl
@[simp] theorem resetBlock_errChar : (resetBlock s).errChar = 0#8 := rfl
@[simp] theorem resetBlock_errPos : (resetBlock s).errPos = 0#32 := rfl
@[simp] theorem resetBlock_errLen : (resetBlock s).errLen = 0#32 := rfl
@[simp] theorem resetBlock_ie : (resetBlock s).ie = false := rfl
@[simp] theorem resetBlock_cmdRej : (resetBlock s).cmdRej = false := rfl
@[simp] theorem resetBlock_reqBufEnc : (resetBlock s).reqBufEnc = s.params.defaultEncBuf := rfl
@[simp] theorem resetBlock_reqBufDec : (resetBlock s).reqBufDec = s.params.defaultDecBuf := rfl
@[simp] theorem resetBlock_fwd : (resetBlock s).fwd = s.fwd := rfl
@[simp] theorem resetBlock_rev : (resetBlock s).rev = s.rev := rfl
@[simp] theorem resetBlock_env : (resetBlock s).env = s.env := rfl
@[simp] theorem resetBlock_freeCount : (resetBlock s).freeCount = s.freeCount := rfl

end Sys2Proof.Machine
end

