-- ==== Sys2Proof/Laws/Step.lean ====
section
/-! SUPPORT. What a step can do, said once: the cases of a fetch, of a step, and of each meaning that can end in more
than one way. -/

namespace Sys2Proof.Machine

/-- A step that answers a next state ran an instruction, ran PROC, was a reset, or waited. -/
theorem step_next_cases {s t : State} (h : step s = .next t) :
    (∃ i u, fetch s = .run i u ∧ exec i u = .next t) ∨ (∃ u, fetch s = .proc u ∧ execProc u = .next t) ∨
      (∃ u, fetch s = .reset u ∧ t = resetBlock u) ∨ fetch s = .wait t := by
  unfold step at h
  split at h
  · next i u hf => exact .inl ⟨i, u, hf, h⟩
  · next u hf => exact .inr (.inl ⟨u, hf, h⟩)
  · next u hf => exact .inr (.inr (.inl ⟨u, hf, by simpa using h.symm⟩))
  · next u hf => rw [Host.Outcome.next.injEq] at h; exact .inr (.inr (.inr (h ▸ hf)))
  · simp at h

/-- A word that runs is one that decodes, and the state it runs in is the one given. -/
theorem runWord_run {w : PortWord} {s u : State} {i : Instr} (h : runWord w s = .run i u) :
    decode w = .ok i ∧ u = s := by
  unfold runWord at h
  split at h
  · next j hj => obtain ⟨rfl, rfl⟩ := Fetched.run.inj h; exact ⟨hj, rfl⟩
  · simp at h

/-- A word either runs or is refused. -/
theorem runWord_cases (w : PortWord) (s : State) :
    (∃ i, runWord w s = .run i s) ∨ ∃ e, runWord w s = .refuse (.badWord e) := by
  unfold runWord
  split
  · exact .inl ⟨_, rfl⟩
  · exact .inr ⟨_, rfl⟩

/-- The state a fetch hands on. -/
def Fetched.state : Fetched → Option State
  | .run _ u | .proc u | .reset u | .wait u => some u
  | .refuse _ => none

theorem runWord_state {w : PortWord} {s u : State} (h : (runWord w s).state = some u) : u = s := by
  rcases runWord_cases w s with ⟨i, hi⟩ | ⟨e, he⟩
  · rw [hi] at h; exact (Option.some.inj h).symm
  · rw [he] at h; cases h

/-- A fetch changes nothing of the block: the state handed on differs at most in the environment, whose outputs stay. -/
theorem fetch_state {s u : State} (h : (fetch s).state = some u) :
    ∃ e : Env, u = { s with env := e } ∧ e.rdata = s.env.rdata ∧ e.delivered = s.env.delivered ∧
      e.gopOut = s.env.gopOut := by
  have wait : some (dropTurn s) = some u → ∃ e : Env, u = { s with env := e } ∧ e.rdata = s.env.rdata ∧
      e.delivered = s.env.delivered ∧ e.gopOut = s.env.gopOut :=
    fun hw => ⟨_, (Option.some.inj hw).symm, rfl, rfl, rfl⟩
  unfold fetch at h
  simp only at h
  split at h
  · split at h
    · exact wait h
    · exact ⟨_, runWord_state h, rfl, rfl, rfl⟩
  · split at h
    · exact wait h
    · split at h
      · exact ⟨_, runWord_state h, rfl, rfl, rfl⟩
      · exact wait h
  · split at h
    · exact wait h
    · exact ⟨_, runWord_state h, rfl, rfl, rfl⟩
  · split at h
    · exact wait h
    · exact ⟨_, runWord_state h, rfl, rfl, rfl⟩
  · split at h <;> exact wait h
  · exact wait h

/-- PROC is taken only in PROCESS (43_stream_adapter.md R122). -/
theorem fetch_proc {s u : State} (h : fetch s = .proc u) : s.state = .process ∧ u = dropTurn s := by
  unfold fetch at h
  have key : ∀ (w : PortWord) (v : State), runWord w v ≠ .proc u := by
    intro w v hw
    rcases runWord_cases w v with ⟨i, hi⟩ | ⟨e, he⟩ <;> simp_all
  simp only at h
  split at h
  · split at h <;> [simp at h; exact absurd h (key _ _)]
  · split at h
    · simp at h
    · split at h <;> [exact absurd h (key _ _); simp at h]
  · split at h <;> [simp at h; exact absurd h (key _ _)]
  · split at h <;> [simp at h; exact absurd h (key _ _)]
  · split at h
    · next hp => exact ⟨hp, (Fetched.proc.inj h).symm⟩
    · simp at h
  · simp at h

/-- A legal command has its effect or is rejected. -/
theorem tryCommand_cases (effect : State → State) (s : State) :
    (acceptsCommand s = true ∧ tryCommand effect s = effect s) ∨
      (acceptsCommand s = false ∧ tryCommand effect s = rejectCommand s) := by
  unfold tryCommand
  cases acceptsCommand s <;> simp

/-- Commands are accepted in IDLE, DONE and ERROR (44_host_interface.md R145). -/
theorem acceptsCommand_iff (s : State) :
    acceptsCommand s = true ↔ s.state = .idle ∨ s.state = .done ∨ s.state = .error := by
  unfold acceptsCommand
  cases s.state <;> simp

/-- The outcomes of SRC_DATA. -/
theorem execSrcData_next {d : Octet} {s t : State} (h : execSrcData d s = .next t) :
    (s.state = .fill ∧ s.cnt < s.params.bufSize ∧ t = acceptOctet (Memory.insert s.buf s.cnt d) s) ∨
      (s.state ≠ .fill ∧ t = keepPending (srcWord 0b00#2 d) s) := by
  unfold execSrcData at h
  split at h
  · next hf =>
    split at h
    · next m hm =>
      obtain ⟨hlt, rfl⟩ := Memory.write_ok hm
      exact .inl ⟨hf, hlt, by simpa using h.symm⟩
    · simp at h
  · next hf => exact .inr ⟨hf, by simpa using h.symm⟩

/-- The outcomes of SNK_ACK. -/
theorem execSnkAck_next {s t : State} (h : execSnkAck s = .next t) :
    s.state = .drain ∧ ∃ b, s.optr < s.params.obufSize ∧ Memory.lookup s.obuf s.optr = some b ∧
      t = if s.optr + 1 = s.ocnt then endOfChunk (giveOctet b s) else giveOctet b s := by
  unfold execSnkAck at h
  split at h
  · next hd =>
    split at h
    · next b hb =>
      obtain ⟨hlt, hb⟩ := Memory.read_ok.mp hb
      exact ⟨hd, b, hlt, hb, (Host.Outcome.next.inj h).symm⟩
    · simp at h
  · simp at h

/-- The outcomes of storing a chunk's output. -/
theorem storeChunk_next {out : List Octet} {s t : State} (h : storeChunk out s = .next t) :
    ∃ m, Memory.writeRange s.params.obufSize s.obuf 0 out = .ok m ∧
      t = if s.mode = .decode ∧ out.length = 0 then endOfChunk (offerChunk m out.length s)
        else offerChunk m out.length s := by
  unfold storeChunk at h
  split at h
  · simp at h
  · next m hm => exact ⟨m, hm, by simpa using h.symm⟩

/-- The outcomes of PROC (43_stream_adapter.md R126, R127). -/
theorem execProc_next {s t : State} (h : execProc s = .next t) :
    ∃ chunk, Memory.readRange s.params.bufSize s.buf 0 s.cnt = .ok chunk ∧
      ((s.mode = .encode ∧ storeChunk (encodeChunk s.fwd chunk) s = .next t) ∨
        (s.mode = .decode ∧ ∃ out, decodeChunk s.rev chunk = .ok out ∧ storeChunk out s = .next t) ∨
        (s.mode = .decode ∧ ∃ e, decodeChunk s.rev chunk = .error e ∧ t = failChunk e s)) := by
  unfold execProc at h
  split at h
  · simp at h
  · next chunk hc =>
    refine ⟨chunk, hc, ?_⟩
    split at h
    · next hm => exact .inl ⟨hm, h⟩
    · next hm =>
      split at h
      · next out ho => exact .inr (.inl ⟨hm, out, ho, h⟩)
      · next e he => exact .inr (.inr ⟨hm, e, he, by simpa using h.symm⟩)

end Sys2Proof.Machine
end

