-- ==== Sys2Proof/Tests/Slice0.lean ====
section
/-! SUPPORT. Tests: ill-formed terms refused, words of the spec decoded, one step against the vectors of
spec/95_test_vectors.md (S, V, L3), and for each statement with hypotheses a concrete state that meets them. -/

namespace Sys2Proof.Tests

open Sys2Proof Sys2Proof.Machine

/-! ## Helpers -/

/-- The state after a step, the same state where the step is no next state. -/
def after (s : State) : State :=
  match step s with
  | .next t => t
  | _ => s

/-- The step ends in a next state. -/
def runs (s : State) : Bool :=
  match step s with
  | .next _ => true
  | _ => false

theorem step_after {s : State} (h : runs s = true) : step s = .next (after s) := by
  unfold runs at h
  unfold after
  cases hs : step s <;> simp_all

/-- The refusal a step ends in. -/
def refusal (s : State) : Option Refusal :=
  match step s with
  | .refused r => some r
  | _ => none

theorem decode_of_toOption {p : PortWord} {i : Instr} (h : (decode p).toOption = some i) : decode p = .ok i := by
  cases hd : decode p <;> simp_all [Except.toOption]

/-- `Inv`, as a check that evaluates. -/
def invCheck (s : State) : Bool :=
  s.params.wf && Memory.wf s.params.bufSize s.buf && Memory.wf s.params.obufSize s.obuf &&
  (List.range s.cnt).all (fun a => (Memory.lookup s.buf a).isSome) &&
  (List.range s.ocnt).all (fun a => (Memory.lookup s.obuf a).isSome) &&
  decide (s.cnt ≤ s.eff.toNat ∧ s.eff.toNat ≤ s.params.bufSize ∧ s.optr ≤ s.ocnt ∧ s.ocnt ≤ s.params.obufSize) &&
  decide ((s.eff.toNat = 0 → s.state = .idle) ∧ s.eff.toNat % groupSize s.mode = 0 ∧
    (s.state = .fill → s.eofSeen = false ∧ s.cnt < s.eff.toNat) ∧
    (s.state = .process →
      0 < s.cnt ∧ (s.eofSeen = false → s.cnt = s.eff.toNat) ∧ (s.eofSeen = true → s.cnt < s.eff.toNat)) ∧
    (s.state = .drain → s.optr < s.ocnt) ∧ (s.state = .fill ∨ s.state = .process → s.ocnt = 0 ∧ s.optr = 0)) &&
  decide ((s.state ≠ .error → s.errCode = 0#4 ∧ s.errChar = 0#8 ∧ s.errPos = 0#32 ∧ s.errLen = 0#32) ∧
    (s.state = .error → 1 ≤ s.errCode.toNat ∧ s.errCode.toNat ≤ 5) ∧ (s.errChar ≠ 0#8 → s.errCode = 3#4))

theorem inv_of_check {s : State} (h : invCheck s = true) : Inv s := by
  simp only [invCheck, Bool.and_eq_true, decide_eq_true_eq, List.all_eq_true, List.mem_range] at h
  obtain ⟨⟨⟨⟨⟨⟨⟨h1, h2⟩, h3⟩, h4⟩, h5⟩, h6⟩, h7⟩, h8⟩ := h
  refine ⟨h1, h2, h3, h4, h5, h6.1, h6.2.1, h6.2.2.1, h6.2.2.2, h7.1, h7.2.1, h7.2.2.1, h7.2.2.2.1, h7.2.2.2.2.1,
    h7.2.2.2.2.2, h8.1, h8.2.1, h8.2.2⟩

/-! ### Small states: an instance with BUF_MAX = 8 (so OBUF_MAX = 8, R9) -/

def small : State :=
  { State.reset with params := ⟨8#32, 3#32, 4#32⟩, reqBufEnc := 3#32, reqBufDec := 4#32 }

def listed : Nat → List Octet → Memory
  | _, [] => []
  | a, b :: bs => (a, b) :: listed (a + 1) bs

def filling (m : Mode) (eff : Word) (got : List Octet) : State :=
  { small with state := .fill, mode := m, eff := eff, buf := listed 0 got, cnt := got.length
               inCount := BitVec.ofNat 32 got.length }

def processing (m : Mode) (eff : Word) (eof : Bool) (got : List Octet) : State :=
  { filling m eff got with state := .process, eofSeen := eof }

/-- Draining `out`, of which the sink has accepted `k` octets. -/
def draining (eof : Bool) (out : List Octet) (k : Nat) : State :=
  { small with state := .drain, eff := 3#32, eofSeen := eof, obuf := listed 0 out, ocnt := out.length, optr := k
               outCount := BitVec.ofNat 32 k }

/-- A decode that has ended well. -/
def finished : State := { small with state := .done, mode := .decode, eff := 4#32, eofSeen := true }

/-- A decode that has met an illegal character. -/
def failed : State :=
  { small with state := .error, mode := .decode, eff := 4#32, errCode := 3#4, errChar := 0x2D#8, errPos := 7#32
               errLen := 4#32, outCount := 3#32 }

def onBus (w : BitVec 41) (s : State) : State := { s with env := { s.env with turns := [.host], busQ := [w] } }
def onSrc (w : BitVec 10) (s : State) : State := { s with env := { s.env with turns := [.source], srcQ := [w] } }
def onSnk (w : BitVec 2) (s : State) : State := { s with env := { s.env with turns := [.sink], snkQ := [w] } }
def onGop (sel : BitVec 3) (o : BitVec 32) (s : State) : State :=
  { s with env := { s.env with turns := [.groupSelect], gopQ := [(sel, o)] } }
def onTurn (a : Agent) (s : State) : State := { s with env := { s.env with turns := [a] } }

/-- `"TWFu"`, `"Man"` -/
def twfu : List Octet := [0x54#8, 0x57#8, 0x46#8, 0x75#8]
def man : List Octet := [0x4D#8, 0x61#8, 0x6E#8]

/-! ## WellFormed: an ill-formed term for its one check, refused (R65, log entry 12) -/

theorem test_commandWordsAreCommands :
    (Instr.regWrite .cmd 1#32).wellFormed = false ∧ (Instr.regWrite .cmd 2#32).wellFormed = false ∧
    (Instr.regWrite .cmd 3#32).wellFormed = false ∧ (Instr.regWrite .cmd 0x80000001#32).wellFormed = true ∧
    (Instr.regWrite .ctrl 1#32).wellFormed = true := by decide

/-! ## Decoding: words written out from the fields of 30_encoding.md -/

/-- WE = 1, OFFSET = 0, WDATA = 1, 2, 3 (R65, R67). -/
theorem test_decodeCommands :
    decode (.bus (0b1#1 ++ 0b00000000#8 ++ 0x00000001#32)) = .ok .startEncode ∧
    decode (.bus (0b1#1 ++ 0b00000000#8 ++ 0x00000002#32)) = .ok .startDecode ∧
    decode (.bus (0b1#1 ++ 0b00000000#8 ++ 0x00000003#32)) = .ok .clear := ⟨rfl, rfl, rfl⟩

/-- A read of ERR_CODE (0x18), a write of REQ_BUF_DEC (0x10), and a word of CMD that is no command (R66, R67). -/
theorem test_decodeBus :
    decode (.bus (0b0#1 ++ 0b00011000#8 ++ 0x00000000#32)) = .ok (.regRead .errCode 0#32) ∧
    decode (.bus (0b1#1 ++ 0b00010000#8 ++ 0x00000005#32)) = .ok (.regWrite .reqBufDec 5#32) ∧
    decode (.bus (0b1#1 ++ 0b00000000#8 ++ 0x80000001#32)) = .ok (.regWrite .cmd 0x80000001#32) := ⟨rfl, rfl, rfl⟩

/-- Every register is read at its offset of 10_state.md R31. -/
theorem test_decodeOffsets :
    (List.range 16).map (fun k => (regAt (BitVec.ofNat 8 (4 * k))).toOption) =
      [some .cmd, some .ctrl, some .status, some .reqBufEnc, some .reqBufDec, some .effBuf, some .errCode, some .errChar,
       some .errPos, some .errLen, some .inCount, some .outCount, some .chunkCount, some .param, some .rsvd38,
       some .rsvd3C] := by decide

/-- KIND ‖ DATA (R68); KIND = 11 is refused (R69). -/
theorem test_decodeSrc :
    decode (.src (0b00#2 ++ 0b01001101#8)) = .ok (.srcData 0x4D#8) ∧
    decode (.src (0b01#2 ++ 0b00000000#8)) = .ok (.srcEof 0#8) ∧
    decode (.src (0b10#2 ++ 0b11111111#8)) = .ok (.srcErr 0xFF#8) ∧
    decode (.src (0b11#2 ++ 0b01001101#8)) = .error .srcKindReserved := ⟨rfl, rfl, rfl, rfl⟩

/-- RESP (R69). -/
theorem test_decodeSnk :
    decode (.snk 0b01#2) = .ok .snkAck ∧ decode (.snk 0b10#2) = .ok .snkErr ∧
    decode (.snk 0b00#2) = .error .snkRespReserved ∧ decode (.snk 0b11#2) = .error .snkRespReserved :=
  ⟨rfl, rfl, rfl, rfl⟩

/-- The selects of R72. -/
theorem test_decodeGop :
    decode (.gop 0b000#3 0x004D616E#32) = .ok (.enc3 0x4D616E#24) ∧
    decode (.gop 0b001#3 0x004D6100#32) = .ok (.enc2 0x4D6100#24) ∧
    decode (.gop 0b010#3 0x004D0000#32) = .ok (.enc1 0x4D0000#24) ∧
    decode (.gop 0b100#3 0x54574675#32) = .ok (.dec0 0x54574675#32) ∧
    decode (.gop 0b101#3 0x5457453D#32) = .ok (.dec1 0x5457453D#32) ∧
    decode (.gop 0b110#3 0x54513D3D#32) = .ok (.dec2 0x54513D3D#32) ∧
    decode (.gop 0b011#3 0#32) = .error .gopReserved ∧ decode (.gop 0b111#3 0#32) = .error .gopReserved :=
  ⟨rfl, rfl, rfl, rfl, rfl, rfl, rfl, rfl⟩

/-- The rows of spec/opcode_table.json by their match words. -/
theorem test_decodeTableWord :
    decodeTableWord 32 0x2 = some .startDecode ∧ decodeTableWord 41 0x10000000000 = some (.regWrite .cmd 0#32) ∧
    decodeTableWord 41 0 = some (.regRead .cmd 0#32) ∧ decodeTableWord 10 0x100 = some (.srcEof 0#8) ∧
    decodeTableWord 2 2 = some .snkErr ∧ decodeTableWord 3 0 = some (.enc3 0#24) ∧
    decodeTableWord 3 1 = some (.enc2 0#24) ∧ decodeTableWord 3 6 = some (.dec2 0#32) := by decide

/-! ## One step, against the vectors of the spec -/

/-- V8 `WR CMD, 0x1` in IDLE, V7 (a request of 4 gives EFF = 6). -/
theorem test_startEncode :
    let t := after (onBus 0x10000000001#41 { small with reqBufEnc := 4#32 })
    t.state = .fill ∧ t.mode = .encode ∧ t.eff = 6#32 ∧ statusWord t = 0x021#32 := by decide

/-- V8 `WR CMD, 0x1` in FILL. -/
theorem test_startEncode_whileBusy :
    let t := after (onBus 0x10000000001#41 (filling .encode 3#32 [0x4D#8]))
    t.state = .fill ∧ t.cnt = 1 ∧ statusWord t = 0x121#32 := by decide

/-- V8 `WR CMD, 0x2` in DONE; S21 (a request of 0 gives EFF = 4). -/
theorem test_startDecode :
    let t := after (onBus 0x10000000002#41 { finished with reqBufDec := 0#32, inCount := 9#32 })
    t.eff = 4#32 ∧ t.inCount = 0#32 ∧ statusWord t = 0x029#32 := by decide

/-- V8 `WR CMD, 0x3` in ERROR. -/
theorem test_clear :
    let t := after (onBus 0x10000000003#41 failed)
    t.state = .idle ∧ t.errCode = 0#4 ∧ t.outCount = 3#32 ∧ statusWord t = 0x008#32 := by decide

/-- V8 `RD STATUS` of a decode in DONE with IE = 1. -/
theorem test_regRead_status :
    (after (onBus 0x00800000000#41 { finished with ie := true })).env.rdata = 0x05C#32 := by decide

/-- V8: ERR_CODE reads 0x15 for IO_WRITE. -/
theorem test_regRead_errCode :
    (after (onBus 0x01800000000#41 { failed with errCode := 5#4 })).env.rdata = 0x15#32 := by decide

/-- V8 `WR CMD, 0x11` in IDLE. -/
theorem test_regWrite_badCommand :
    let t := after (onBus 0x10000000011#41 small)
    t.state = .idle ∧ t.cmdRej = true := by decide

/-- V8 `WR CTRL, 0x1` in DONE, and `WR STATUS, 0x100`. -/
theorem test_regWrite_ctrl_status :
    irq (after (onBus 0x10400000001#41 finished)) = true ∧
    (after (onBus 0x10800000100#41 { small with cmdRej := true })).cmdRej = false := by decide

/-- V9, row 1. -/
theorem test_srcData_lastOfChunk :
    let t := after (onSrc 0x06E#10 (filling .encode 3#32 [0x4D#8, 0x61#8]))
    t.cnt = 3 ∧ t.inCount = 3#32 ∧ t.state = .process ∧ t.buf = listed 0 man := by decide

/-- V9, row 2. -/
theorem test_srcData_inChunk :
    let t := after (onSrc 0x00A#10 (filling .decode 8#32 twfu))
    t.cnt = 5 ∧ t.state = .fill := by decide

/-- V9, rows 3 and 4. -/
theorem test_srcEof :
    (after (onSrc 0x100#10 (filling .encode 3#32 []))).state = .done ∧
    (after (onSrc 0x100#10 (filling .encode 3#32 [0x4D#8]))).state = .process ∧
    (after (onSrc 0x100#10 (filling .encode 3#32 [0x4D#8]))).eofSeen = true := by decide

/-- V9, row 5. -/
theorem test_srcErr :
    let t := after (onSrc 0x200#10 (filling .encode 3#32 [0x4D#8, 0x61#8]))
    t.state = .error ∧ t.errCode = 4#4 ∧ t.errPos = 2#32 ∧ t.errLen = 0#32 := by decide

/-- V9: SNK_ACK of the last octet, before the end of input and after it. -/
theorem test_snkAck :
    let t := after (onSnk 0b01#2 (draining false twfu 3))
    t.state = .fill ∧ t.ocnt = 0 ∧ t.outCount = 4#32 ∧ t.env.delivered = [0x75#8] ∧
    (after (onSnk 0b01#2 (draining true twfu 3))).state = .done := by decide

/-- V9: SNK_ERR; V9's last row: a response outside DRAIN is refused. -/
theorem test_snkErr :
    let t := after (onSnk 0b10#2 (draining false twfu 2))
    t.state = .error ∧ t.errCode = 5#4 ∧ t.errPos = 2#32 ∧ t.outCount = 2#32 ∧
    refusal (onSnk 0b10#2 finished) = some .sinkOutsideDrain := by decide

/-- V2: ENC3 of 0x4D 0x61 0x6E and of 0x00 0x10 0x83. -/
theorem test_enc3 :
    (after (onGop 0b000#3 0x004D616E#32 small)).env.gopOut = twfu ∧
    (after (onGop 0b000#3 0x00001083#32 small)).env.gopOut = [0x41#8, 0x42#8, 0x43#8, 0x44#8] := by decide

/-- V2: ENC2 of 0xFB 0xFF, `"+/8="`; the third octet of the word counts as zero. -/
theorem test_enc2 :
    (after (onGop 0b001#3 0x00FBFFFF#32 small)).env.gopOut = [0x2B#8, 0x2F#8, 0x38#8, 0x3D#8] := by decide

/-- V2: ENC1 of 0xFF, `"/w=="`. -/
theorem test_enc1 :
    (after (onGop 0b010#3 0x00FF0000#32 small)).env.gopOut = [0x2F#8, 0x77#8, 0x3D#8, 0x3D#8] := by decide

/-- V4: DEC0 of `"TWFu"`. -/
theorem test_dec0 : (after (onGop 0b100#3 0x54574675#32 small)).env.gopOut = man := by decide

/-- V4: DEC1 of `"//9="`, where `v2[1:0] = 01` is discarded. -/
theorem test_dec1 : (after (onGop 0b101#3 0x2F2F393D#32 small)).env.gopOut = [0xFF#8, 0xFF#8] := by decide

/-- V4: DEC2 of `"/x=="`, where `v1[3:0] = 0001` is discarded. -/
theorem test_dec2 : (after (onGop 0b110#3 0x2F783D3D#32 small)).env.gopOut = [0xFF#8] := by decide

/-- V9: PROC in Encode of `"Man"`. -/
theorem test_proc_encode :
    let t := after (onTurn .adapter (processing .encode 3#32 false man))
    t.state = .drain ∧ t.obuf = listed 0 twfu ∧ t.ocnt = 4 ∧ t.optr = 0 ∧ t.chunkCount = 1#32 := by decide

/-- V9: PROC in Decode of a final `"\n"`, and of `"TWF-"` at IN_COUNT = 8. -/
theorem test_proc_decode :
    (after (onTurn .adapter (processing .decode 4#32 true [0x0A#8]))).state = .done ∧
    let t := after (onTurn .adapter { processing .decode 4#32 false [0x54#8, 0x57#8, 0x46#8, 0x2D#8] with inCount := 8#32 })
    t.state = .error ∧ t.errCode = 3#4 ∧ t.errChar = 0x2D#8 ∧ t.errPos = 7#32 ∧ t.errLen = 4#32 ∧
    t.chunkCount = 0#32 := by decide

/-- V11: reset in DRAIN keeps what was delivered. -/
theorem test_reset :
    let s := draining false twfu 2
    let t := after (onTurn .resetLine { s with env := { s.env with delivered := [0x54#8, 0x57#8] } })
    statusWord t = 0#32 ∧ t.outCount = 0#32 ∧ t.env.delivered = [0x54#8, 0x57#8] := by decide

/-- withFetchWord: the very next step runs the row's instruction. -/
theorem test_withFetchWord :
    (after (State.reset.withFetchWord 41 0x10400000001)).ie = true ∧
    (after (State.reset.withFetchWord 10 0x04D)).inCount = 1#32 ∧
    (after (State.reset.withFetchWord 2 1)).outCount = 1#32 ∧
    (after (State.reset.withFetchWord 3 0)).env.gopOut = [0x41#8, 0x41#8, 0x41#8, 0x41#8] := by decide

/-! ## Witnesses: for each statement with hypotheses, what meets them -/

/-- DecodeOfEncode. -/
theorem test_witness_DecodeOfEncode :
    Instr.startEncode.wellFormed = true ∧ (Instr.regWrite .cmd 0#32).wellFormed = true ∧
    (Instr.dec2 0xFFFFFFFF#32).wellFormed = true := by decide

/-- EncodeOfDecode: a word of each port, an encode and a decode select. -/
theorem test_witness_EncodeOfDecode :
    decode (.bus 0x10000000003#41) = .ok .clear ∧ decode (.src 0x1FF#10) = .ok (.srcEof 0xFF#8) ∧
    decode (.snk 0b10#2) = .ok .snkErr ∧ decode (.gop 0b010#3 0xFF4D0000#32) = .ok (.enc1 0x4D0000#24) ∧
    decode (.gop 0b100#3 0xFF4D0000#32) = .ok (.dec0 0xFF4D0000#32) := ⟨rfl, rfl, rfl, rfl, rfl⟩

/-- ReservedWordsRefused: a word on each side of each condition. -/
theorem test_witness_ReservedWordsRefused :
    decode (.bus 0x03E00000000#41) = .error .busMisaligned ∧ decode (.bus 0x0FF00000000#41) = .error .busMisaligned ∧
    decode (.bus 0x04000000000#41) = .error .busOutOfWindow ∧ decode (.bus 0x1FC00000000#41) = .error .busOutOfWindow ∧
    decode (.bus 0x03C00000000#41) = .ok (.regRead .rsvd3C 0#32) := ⟨rfl, rfl, rfl, rfl, rfl⟩

/-- StepRunsDecodedWord, each port. -/
theorem test_witness_StepRunsDecodedWord :
    (let s := onBus 0x10000000001#41 small
     s.env.turns = .host :: [] ∧ s.env.busQ = 0x10000000001#41 :: [] ∧ decode (.bus 0x10000000001#41) = .ok .startEncode) ∧
    (let s := onSrc 0x04D#10 (filling .encode 3#32 [])
     s.state = .fill ∧ s.env.turns = .source :: [] ∧ s.env.srcQ = 0x04D#10 :: [] ∧
       decode (.src 0x04D#10) = .ok (.srcData 0x4D#8)) ∧
    (let s := onSnk 0b01#2 (draining false twfu 0)
     s.env.turns = .sink :: [] ∧ s.env.snkQ = 0b01#2 :: [] ∧ decode (.snk 0b01#2) = .ok .snkAck) ∧
    (let s := onGop 0b110#3 0#32 small
     s.env.turns = .groupSelect :: [] ∧ s.env.gopQ = (0b110#3, 0#32) :: [] ∧ decode (.gop 0b110#3 0#32) = .ok (.dec2 0#32)) :=
  ⟨⟨rfl, rfl, rfl⟩, ⟨rfl, rfl, rfl, rfl⟩, ⟨rfl, rfl, rfl⟩, ⟨rfl, rfl, rfl⟩⟩

/-- DisabledAgentWaits, each case. -/
theorem test_witness_DisabledAgentWaits :
    (nextAgent (onSrc 0x04D#10 finished) = .source ∧ (onSrc 0x04D#10 finished).state ≠ .fill) ∧
    (nextAgent small = .adapter ∧ small.state ≠ .process) ∧
    (nextAgent (onTurn .host small) = .host ∧ (onTurn .host small).env.busQ = []) ∧
    (nextAgent (onTurn .source small) = .source ∧ (onTurn .source small).env.srcQ = []) ∧
    (nextAgent (onTurn .sink small) = .sink ∧ (onTurn .sink small).env.snkQ = []) ∧
    (nextAgent (onTurn .groupSelect small) = .groupSelect ∧ (onTurn .groupSelect small).env.gopQ = []) := by decide

/-- ReservedWordStopsStep, each port. -/
theorem test_witness_ReservedWordStopsStep :
    (let s := onBus 0x00100000000#41 small
     nextAgent s = .host ∧ s.env.busQ.head? = some 0x00100000000#41 ∧ decode (.bus 0x00100000000#41) = .error .busMisaligned) ∧
    (let s := onSrc 0x300#10 (filling .encode 3#32 [])
     nextAgent s = .source ∧ s.state = .fill ∧ s.env.srcQ.head? = some 0x300#10 ∧
       decode (.src 0x300#10) = .error .srcKindReserved) ∧
    (let s := onSnk 0b11#2 small
     nextAgent s = .sink ∧ s.env.snkQ.head? = some 0b11#2 ∧ decode (.snk 0b11#2) = .error .snkRespReserved) ∧
    (let s := onGop 0b011#3 0#32 small
     nextAgent s = .groupSelect ∧ s.env.gopQ.head? = some (0b011#3, 0#32) ∧
       decode (.gop 0b011#3 0#32) = .error .gopReserved) :=
  ⟨⟨rfl, rfl, rfl⟩, ⟨rfl, rfl, rfl, rfl⟩, ⟨rfl, rfl, rfl⟩, ⟨rfl, rfl, rfl⟩⟩

/-- ResetFromAnyState. -/
theorem test_witness_ResetFromAnyState : nextAgent (onTurn .resetLine (draining true twfu 1)) = .resetLine := by decide

/-- StartEncodeBegins, StartDecodeBegins, ClearReturnsToIdle: the three states that accept a command. -/
theorem test_witness_commandsAccepted : small.state = .idle ∧ finished.state = .done ∧ failed.state = .error := by decide

/-- RejectedCommandSetsFlagOnly: illegal words beside the legal ones, and the three busy states. -/
theorem test_witness_RejectedCommandSetsFlagOnly :
    (0#32 ≠ 1#32 ∧ 0#32 ≠ 2#32 ∧ 0#32 ≠ 3#32) ∧ (4#32 ≠ 1#32 ∧ 4#32 ≠ 2#32 ∧ 4#32 ≠ 3#32) ∧
    (filling .encode 3#32 []).state = .fill ∧ (processing .decode 4#32 false twfu).state = .process ∧
    (draining false twfu 0).state = .drain := by decide

/-- EffectiveSizeBounds: the least capacity, and each clause at its boundary (a request of the whole capacity, and one
more). -/
theorem test_witness_EffectiveSizeBounds :
    (4 : Nat) ≤ 4 ∧ 3 ≤ 4 / groupSize .encode * groupSize .encode ∧ 4 / groupSize .encode * groupSize .encode < 4 ∧
    4 ≤ 4 / groupSize .decode * groupSize .decode ∧ 4 / groupSize .decode * groupSize .decode < 5 := by decide

/-- RegWriteReadOnlyIgnored. -/
theorem test_witness_RegWriteReadOnlyIgnored :
    Reg.effBuf ∈ [Reg.effBuf, .errCode, .errChar, .errPos, .errLen, .inCount, .outCount, .chunkCount, .param, .rsvd38,
      .rsvd3C] := by decide

/-- SrcDataStoresOctet, with room left in the chunk and without; SrcEofEndsInput, with an empty chunk and without;
SrcErrEntersError. -/
theorem test_witness_source :
    (let s := filling .decode 8#32 (twfu ++ man)
     s.state = .fill ∧ s.cnt < s.params.bufMax.toNat ∧ s.cnt + 1 = s.eff.toNat) ∧
    (let s := filling .decode 8#32 []
     s.state = .fill ∧ s.cnt < s.params.bufMax.toNat ∧ s.cnt + 1 ≠ s.eff.toNat ∧ s.cnt = 0) := by decide

/-- BeatOutsideFillStaysPending, SinkOutsideDrainRefused. -/
theorem test_witness_portClosed : finished.state ≠ .fill ∧ finished.state ≠ .drain := by decide

/-- SnkAckDeliversOctet, at the last octet and before it; SnkErrEntersError. -/
theorem test_witness_sink :
    (let s := draining true twfu 3
     s.state = .drain ∧ (Memory.read s.params.obufSize s.obuf s.optr).toOption = some 0x75#8 ∧ s.optr + 1 = s.ocnt) ∧
    (let s := draining false twfu 0
     s.state = .drain ∧ (Memory.read s.params.obufSize s.obuf s.optr).toOption = some 0x54#8 ∧ s.optr + 1 ≠ s.ocnt) := by
  decide

/-- ProcEncodesChunk. -/
theorem test_witness_ProcEncodesChunk :
    let s := onTurn .adapter (processing .encode 3#32 true [0x4D#8])
    Inv s ∧ s.state = .process ∧ s.mode = .encode ∧ nextAgent s = .adapter ∧
      Memory.readRange s.params.bufSize s.buf 0 s.cnt = .ok [0x4D#8] :=
  ⟨inv_of_check (by decide), rfl, rfl, rfl, rfl⟩

/-- ProcDecodesChunk: a chunk with output, one without, and one that fails. -/
theorem test_witness_ProcDecodesChunk :
    (let s := onTurn .adapter (processing .decode 4#32 false twfu)
     Inv s ∧ s.state = .process ∧ s.mode = .decode ∧ nextAgent s = .adapter ∧
       Memory.readRange s.params.bufSize s.buf 0 s.cnt = .ok twfu ∧ (decodeChunk s.rev twfu).toOption = some man) ∧
    (let s := onTurn .adapter (processing .decode 4#32 true [0x0A#8])
     Inv s ∧ s.state = .process ∧ s.mode = .decode ∧ nextAgent s = .adapter ∧
       Memory.readRange s.params.bufSize s.buf 0 s.cnt = .ok [0x0A#8] ∧
       (decodeChunk s.rev [0x0A#8]).toOption = some []) ∧
    (let s := onTurn .adapter (processing .decode 4#32 true [0x54#8])
     Inv s ∧ s.state = .process ∧ s.mode = .decode ∧ nextAgent s = .adapter ∧
       Memory.readRange s.params.bufSize s.buf 0 s.cnt = .ok [0x54#8] ∧ (decodeChunk s.rev [0x54#8]).toOption = none) :=
  ⟨⟨inv_of_check (by decide), rfl, rfl, rfl, rfl, by decide⟩, ⟨inv_of_check (by decide), rfl, rfl, rfl, rfl, by decide⟩,
    ⟨inv_of_check (by decide), rfl, rfl, rfl, rfl, by decide⟩⟩

/-- ChunkIsItsGroupOperations, DecodeChunkLength, StreamedDecodeOfValidInput: a text that decodes (S9). -/
theorem test_witness_decodes :
    (decodeChunk reverseAlphabet [0x54#8, 0x57#8, 0x45#8, 0x3D#8]).toOption = some [0x4D#8, 0x61#8] ∧
    (⟨4#32, 3#32, 4#32⟩ : Params).wf = true ∧ 4 ≤ (⟨4#32, 3#32, 4#32⟩ : Params).bufMax.toNat ∧ 4 % 4 = 0 := by decide

/-- DecodeGroupOperations: `"TWFu"` (V4). -/
theorem test_witness_DecodeGroupOperations :
    revAt small.rev 0x54#8 = (19#6).setWidth 8 ∧ revAt small.rev 0x57#8 = (22#6).setWidth 8 ∧
    revAt small.rev 0x46#8 = (5#6).setWidth 8 ∧ revAt small.rev 0x75#8 = (46#6).setWidth 8 := by decide

/-- TrailingBitsDiscarded, with sextets that differ (V4). -/
theorem test_witness_TrailingBitsDiscarded :
    (60#6).extractLsb' 2 4 = (61#6).extractLsb' 2 4 ∧ (48#6).extractLsb' 4 2 = (49#6).extractLsb' 4 2 := by decide

/-- AlphabetIsBijective; ReverseAlphabetDerived: a character outside the alphabet (V1). -/
theorem test_witness_alphabets :
    fwdAt alphabet 63#6 = fwdAt alphabet 63#6 ∧ (∀ a : Sextet, fwdAt alphabet a ≠ 0x2D#8) ∧ 0x2D#8 ≠ 0x3D#8 := by decide

/-- RomsNeverChange, StepKeepsInvariant: a step from a state that meets the invariant. -/
theorem test_witness_StepKeepsInvariant :
    let s := onSrc 0x06E#10 (filling .encode 3#32 [0x4D#8, 0x61#8])
    Inv s ∧ step s = .next (after s) := ⟨inv_of_check (by decide), step_after (by decide)⟩

/-- EncodeChunkLength at the capacity of R9's smallest block; EncodeChunkConcatenation (V3). -/
theorem test_witness_encodeChunk :
    man.length ≤ (⟨4#32, 3#32, 4#32⟩ : Params).bufMax.toNat / 3 * 3 ∧ man.length % 3 = 0 := by decide

/-- NewlineConcession: `"TWFu"` before a newline; a text that keeps its newline; one without (V6). -/
theorem test_witness_NewlineConcession :
    (twfu ++ [0x0A#8]).length % 4 = 1 ∧ (twfu ++ [0x0D#8, 0x0A#8]).length % 4 ≠ 1 ∧ ¬ [0x0A#8] <:+ twfu := by decide

/-- DecodeChunkVerdict: `"TWFum"`, `"===="`, `"TWF-"`, `"TWFu"` (V6). -/
theorem test_witness_DecodeChunkVerdict :
    (twfu ++ [0x6D#8] = stripNewline (twfu ++ [0x6D#8]) ∧ (twfu ++ [0x6D#8]).length % 4 ≠ 0) ∧
    (let t : List Octet := [0x3D#8, 0x3D#8, 0x3D#8, 0x3D#8]
     t = stripNewline t ∧ t.length % 4 = 0 ∧ [0x3D#8, 0x3D#8, 0x3D#8] <:+ t) ∧
    (let t : List Octet := [0x54#8, 0x57#8, 0x46#8, 0x2D#8]
     t = stripNewline t ∧ t.length % 4 = 0 ∧ ¬ [0x3D#8, 0x3D#8, 0x3D#8] <:+ t ∧ 3 < t.length - padCount t ∧
       t[3]? = some 0x2D#8 ∧ 0x3F < (revAt reverseAlphabet 0x2D#8).toNat ∧
       ∀ j : Fin 3, (revAt reverseAlphabet t[j]).toNat ≤ 0x3F) ∧
    (twfu = stripNewline twfu ∧ twfu.length % 4 = 0 ∧ ¬ [0x3D#8, 0x3D#8, 0x3D#8] <:+ twfu ∧
      ∀ c ∈ twfu, (revAt reverseAlphabet c).toNat ≤ 0x3F) := by decide

/-- StreamedEncodeIsExact, StreamedDecodeOfValidInput: the least sizes. -/
theorem test_witness_streamed : 3 % 3 = 0 ∧ 3 ≤ 3 ∧ 4 % 4 = 0 ∧ 4 ≤ 4 ∧ 8 ≤ 8 := by decide

/-- FairRunMeetsTranscode: one octet of input in seven rounds, which ends in DONE; V10.7 (`"TWFuTWF-"` in chunks of 4) in
49, which ends in ERROR at ERR_POS = 7. -/
theorem test_witness_FairRunMeetsTranscode :
    (let s := { filling .encode 3#32 [] with env := { small.env with srcQ := beatsOf [0x4D#8] } }
     JustStarted [0x4D#8] s ∧
     FairRounds (6 * [0x4D#8].length + 1) (List.replicate 7 [Agent.source, .adapter, .host, .sink]).flatten ∧
     (transcode s.fwd s.rev s.mode s.eff.toNat [0x4D#8]).2 = none) ∧
    (let S := twfu ++ [0x54#8, 0x57#8, 0x46#8, 0x2D#8]
     let s := { filling .decode 4#32 [] with env := { small.env with srcQ := beatsOf S } }
     JustStarted S s ∧ FairRounds (6 * S.length + 1) (List.replicate 49 [Agent.sink, .adapter, .source]).flatten ∧
     (transcode s.fwd s.rev s.mode s.eff.toNat S).2 = some ⟨.illegalChar, 0x2D#8, 3, 4⟩ ∧
     failOffset (codecFn s.fwd s.rev s.mode) (chunks s.eff.toNat S) + 3 = 7) :=
  ⟨⟨⟨inv_of_check (by decide), rfl, rfl, ⟨rfl, rfl, rfl⟩, rfl, rfl⟩, ⟨_, rfl, by decide, by decide⟩, by decide⟩,
    ⟨inv_of_check (by decide), rfl, rfl, ⟨rfl, rfl, rfl⟩, rfl, rfl⟩, ⟨_, rfl, by decide, by decide⟩, by decide, by decide⟩

/-- InvariantRulesOutFaults: a next state, a word that is no transaction, a response outside DRAIN. -/
theorem test_witness_InvariantRulesOutFaults :
    Inv (onSnk 0b01#2 (draining false twfu 0)) ∧
    (Inv (onSnk 0b00#2 (draining false twfu 0)) ∧
      refusal (onSnk 0b00#2 (draining false twfu 0)) = some (.badWord .snkRespReserved)) ∧
    (Inv (onSnk 0b01#2 finished) ∧ refusal (onSnk 0b01#2 finished) = some .sinkOutsideDrain) :=
  ⟨inv_of_check (by decide), ⟨inv_of_check (by decide), by decide⟩, inv_of_check (by decide), by decide⟩

/-- ChunksAreWholeGroups: a full chunk, and a short one at the end of input. -/
theorem test_witness_ChunksAreWholeGroups :
    (let s := onSrc 0x06E#10 (filling .encode 3#32 [0x4D#8, 0x61#8])
     Inv s ∧ step s = .next (after s) ∧ (after s).state = .process ∧ (after s).eofSeen = false) ∧
    (let s := onSrc 0x100#10 (filling .encode 3#32 [0x4D#8, 0x61#8])
     Inv s ∧ step s = .next (after s) ∧ (after s).state = .process ∧ (after s).eofSeen = true) :=
  ⟨⟨inv_of_check (by decide), step_after (by decide), by decide, by decide⟩,
    inv_of_check (by decide), step_after (by decide), by decide, by decide⟩

/-- ModeAndSizeLatchedAtStart: a START, and a reset. -/
theorem test_witness_ModeAndSizeLatchedAtStart :
    (let s := onBus 0x10000000002#41 small
     step s = .next (after s) ∧ (after s).mode ≠ s.mode ∧ nextAgent s = .host) ∧
    (let s := onTurn .resetLine finished
     step s = .next (after s) ∧ (after s).eff ≠ s.eff ∧ nextAgent s = .resetLine) :=
  ⟨⟨step_after (by decide), by decide, by decide⟩, step_after (by decide), by decide, by decide⟩

/-- DoneAndErrorAreQuiescent: a waiting source, and a CLEAR. -/
theorem test_witness_DoneAndErrorAreQuiescent :
    (let s := onSrc 0x04D#10 finished
     s.state = .done ∧ step s = .next (after s) ∧ nextAgent s = .source) ∧
    (let s := onBus 0x10000000003#41 failed
     s.state = .error ∧ step s = .next (after s) ∧ (after s).state ≠ s.state) :=
  ⟨⟨by decide, step_after (by decide), by decide⟩, by decide, step_after (by decide), by decide⟩

/-- RunningTranscodeNotCancelled: a CLEAR in DRAIN. -/
theorem test_witness_RunningTranscodeNotCancelled :
    let s := onBus 0x10000000003#41 (draining false twfu 1)
    s.state = .drain ∧ nextAgent s = .host ∧ step s = .next (after s) := ⟨rfl, rfl, step_after (by decide)⟩

/-- ErrorEntryFrame: each kind of cause. -/
theorem test_witness_ErrorEntryFrame :
    (let s := onTurn .adapter (processing .decode 4#32 true [0x54#8])
     s.state ≠ .error ∧ step s = .next (after s) ∧ (after s).state = .error) ∧
    (let s := onSnk 0b10#2 (draining false twfu 1)
     s.state ≠ .error ∧ step s = .next (after s) ∧ (after s).state = .error) :=
  ⟨⟨by decide, step_after (by decide), by decide⟩, by decide, step_after (by decide), by decide⟩

/-- EncodeNeverInvalidInput: both causes. -/
theorem test_witness_EncodeNeverInvalidInput :
    (let s := onSrc 0x200#10 (filling .encode 3#32 [])
     s.mode = .encode ∧ s.state ≠ .error ∧ step s = .next (after s) ∧ (after s).state = .error) ∧
    (let s := onSnk 0b10#2 (draining false twfu 0)
     s.mode = .encode ∧ s.state ≠ .error ∧ step s = .next (after s) ∧ (after s).state = .error) :=
  ⟨⟨rfl, by decide, step_after (by decide), by decide⟩, rfl, by decide, step_after (by decide), by decide⟩

/-- DeliveredNeverWithdrawn: an accepted octet. -/
theorem test_witness_DeliveredNeverWithdrawn :
    let s := onSnk 0b01#2 (draining false twfu 0)
    step s = .next (after s) ∧ (after s).env.delivered ≠ s.env.delivered := ⟨step_after (by decide), by decide⟩

/-- InterruptClearedOnlyBy: a write of 0 to CTRL, a CLEAR, a reset. -/
theorem test_witness_InterruptClearedOnlyBy :
    (let s := onBus 0x10400000000#41 { finished with ie := true }
     irq s = true ∧ step s = .next (after s) ∧ irq (after s) = false) ∧
    (let s := onBus 0x10000000003#41 { finished with ie := true }
     irq s = true ∧ step s = .next (after s) ∧ irq (after s) = false) ∧
    (let s := onTurn .resetLine { failed with ie := true }
     irq s = true ∧ step s = .next (after s) ∧ irq (after s) = false) :=
  ⟨⟨by decide, step_after (by decide), by decide⟩, ⟨by decide, step_after (by decide), by decide⟩,
    by decide, step_after (by decide), by decide⟩

/-- CommandRejectedIsSticky: clearing it, and setting it by a command while busy and by a word that is no command. -/
theorem test_witness_CommandRejectedIsSticky :
    (let s := onBus 0x10800000100#41 { small with cmdRej := true }
     step s = .next (after s) ∧ s.cmdRej = true ∧ (after s).cmdRej = false) ∧
    (let s := onBus 0x10000000001#41 (filling .encode 3#32 [])
     step s = .next (after s) ∧ s.cmdRej = false ∧ (after s).cmdRej = true) ∧
    (let s := onBus 0x10000000011#41 small
     step s = .next (after s) ∧ s.cmdRej = false ∧ (after s).cmdRej = true) :=
  ⟨⟨step_after (by decide), by decide, by decide⟩, ⟨step_after (by decide), by decide, by decide⟩,
    step_after (by decide), by decide, by decide⟩

end Sys2Proof.Tests
end

section
/-! PROOFS. What a fetch takes from each port, said once per port, and the step that runs the decoded word
(spec 00_scope.md R14, 30_encoding.md R68 and R76). -/

namespace Sys2Proof.Machine

section
variable {s : State} {a : Agent} {ts : List Agent} {i : Instr}

/-! ## Whose turn it is -/

theorem nextAgent_of_turns (h : s.env.turns = a :: ts) : nextAgent s = a := by
  simp [nextAgent, h]

theorem dropTurn_of_turns (h : s.env.turns = a :: ts) :
    dropTurn s = { s with env := { s.env with turns := ts } } := by
  simp [dropTurn, h]

/-! ## The word at the head of a port's queue goes to the decoder -/

theorem fetch_host {w : BitVec 41} {ws : List (BitVec 41)} (ha : nextAgent s = .host)
    (hq : s.env.busQ = w :: ws) :
    fetch s = runWord (.bus w) { dropTurn s with env := { (dropTurn s).env with busQ := ws } } := by
  simp [fetch, ha, hq]

/-- The source's beat is taken in FILL only (30_encoding.md R68). -/
theorem fetch_source {w : BitVec 10} {ws : List (BitVec 10)} (ha : nextAgent s = .source)
    (hf : s.state = .fill) (hq : s.env.srcQ = w :: ws) :
    fetch s = runWord (.src w) { dropTurn s with env := { (dropTurn s).env with srcQ := ws } } := by
  simp [fetch, ha, hf, hq]

theorem fetch_sink {w : BitVec 2} {ws : List (BitVec 2)} (ha : nextAgent s = .sink)
    (hq : s.env.snkQ = w :: ws) :
    fetch s = runWord (.snk w) { dropTurn s with env := { (dropTurn s).env with snkQ := ws } } := by
  simp [fetch, ha, hq]

theorem fetch_groupSelect {sel : BitVec 3} {o : BitVec 32} {ws : List (BitVec 3 × BitVec 32)}
    (ha : nextAgent s = .groupSelect) (hq : s.env.gopQ = (sel, o) :: ws) :
    fetch s = runWord (.gop sel o) { dropTurn s with env := { (dropTurn s).env with gopQ := ws } } := by
  simp [fetch, ha, hq]

/-! ## A word that decodes is run -/

theorem runWord_of_decode_ok {w : PortWord} (t : State) (h : decode w = .ok i) : runWord w t = .run i t := by
  simp [runWord, h]

/-- Where the fetch hands a port's word to the decoder and the word is a transaction, the step is its meaning. -/
theorem step_of_fetch_runWord {w : PortWord} {t : State} (hf : fetch s = runWord w t) (hd : decode w = .ok i) :
    step s = exec i t := by
  rw [step, hf, runWord_of_decode_ok t hd]

end

/-! ## The obligation -/

/-- Settles O6: on each port the fetch hands the head word to the decoder, and the step runs what it decodes to. -/
theorem stepRunsDecodedWord : Obligations.StepRunsDecodedWord := by
  refine ⟨?host, ?source, ?sink, ?groupSelect⟩
  case host =>
    intro s ts w ws i ht hq hd
    exact step_of_fetch_runWord (by rw [fetch_host (nextAgent_of_turns ht) hq, dropTurn_of_turns ht]) hd
  case source =>
    intro s ts w ws i hfill ht hq hd
    exact step_of_fetch_runWord (by rw [fetch_source (nextAgent_of_turns ht) hfill hq, dropTurn_of_turns ht]) hd
  case sink =>
    intro s ts w ws i ht hq hd
    exact step_of_fetch_runWord (by rw [fetch_sink (nextAgent_of_turns ht) hq, dropTurn_of_turns ht]) hd
  case groupSelect =>
    intro s ts sel o ws i ht hq hd
    exact step_of_fetch_runWord (by rw [fetch_groupSelect (nextAgent_of_turns ht) hq, dropTurn_of_turns ht]) hd

end Sys2Proof.Machine
end

section
/-! PROOFS. Everything a step can be, whatever it ends in: which agent moves, which word it takes, and what answers. -/

namespace Sys2Proof.Machine

/-- The word is the next one at the port of the agent that moves; at the source's port only where it is open
(30_encoding.md R68). -/
def OnTurn (s : State) : PortWord → Prop
  | .bus w => nextAgent s = .host ∧ s.env.busQ.head? = some w
  | .src w => nextAgent s = .source ∧ s.state = .fill ∧ s.env.srcQ.head? = some w
  | .snk w => nextAgent s = .sink ∧ s.env.snkQ.head? = some w
  | .gop sel operand => nextAgent s = .groupSelect ∧ s.env.gopQ.head? = some (sel, operand)

/-- The state with the turn and the word at the head of the word's port used up. -/
def takeWord (w : PortWord) (s : State) : State :=
  match w with
  | .bus _ => { dropTurn s with env := { (dropTurn s).env with busQ := s.env.busQ.tail } }
  | .src _ => { dropTurn s with env := { (dropTurn s).env with srcQ := s.env.srcQ.tail } }
  | .snk _ => { dropTurn s with env := { (dropTurn s).env with snkQ := s.env.snkQ.tail } }
  | .gop _ _ => { dropTurn s with env := { (dropTurn s).env with gopQ := s.env.gopQ.tail } }

theorem takeWord_eq_withEnv (w : PortWord) (s : State) : ∃ e : Env, takeWord w s = { s with env := e } := by
  cases w <;> exact ⟨_, rfl⟩

/-- What a step does, with the outcome it ends in. -/
inductive StepCase (s : State) : Prop
  | waits (hstep : step s = .next (dropTurn s))
  | resets (hturn : nextAgent s = .resetLine) (hstep : step s = .next (resetBlock (dropTurn s)))
  | processes (hturn : nextAgent s = .adapter) (hstate : s.state = .process)
      (hstep : step s = execProc (dropTurn s))
  | refuses (w : PortWord) (e : WordError) (hturn : OnTurn s w) (hdecode : decode w = .error e)
      (hstep : step s = .refused (.badWord e))
  | runs (w : PortWord) (i : Instr) (hturn : OnTurn s w) (hdecode : decode w = .ok i)
      (hstep : step s = exec i (takeWord w s))

theorem step_of_fetch_wait {s u : State} (h : fetch s = .wait u) : step s = .next u := by
  simp [step, h]

theorem step_of_resetLine {s : State} (h : nextAgent s = .resetLine) :
    step s = .next (resetBlock (dropTurn s)) := by
  simp [step, fetch, h]

/-- A word on its turn is refused or run, as it decodes. -/
theorem StepCase.of_fetch_runWord {s : State} (w : PortWord) (hturn : OnTurn s w)
    (hfetch : fetch s = runWord w (takeWord w s)) : StepCase s := by
  cases hd : decode w with
  | ok i => exact .runs w i hturn hd (step_of_fetch_runWord hfetch hd)
  | error e => exact .refuses w e hturn hd (by simp [step, hfetch, runWord, hd])

theorem step_cases (s : State) : StepCase s := by
  cases ha : nextAgent s with
  | host =>
    cases hq : s.env.busQ with
    | nil => exact .waits (step_of_fetch_wait (by simp [fetch, ha, hq]))
    | cons w ws =>
      exact .of_fetch_runWord (.bus w) ⟨ha, by simp [hq]⟩ (by simp [fetch_host ha hq, takeWord, hq])
  | source =>
    cases hq : s.env.srcQ with
    | nil => exact .waits (step_of_fetch_wait (by simp [fetch, ha, hq]))
    | cons w ws =>
      by_cases hf : s.state = .fill
      · exact .of_fetch_runWord (.src w) ⟨ha, hf, by simp [hq]⟩ (by simp [fetch_source ha hf hq, takeWord, hq])
      · exact .waits (step_of_fetch_wait (by simp [fetch, ha, hq, hf]))
  | sink =>
    cases hq : s.env.snkQ with
    | nil => exact .waits (step_of_fetch_wait (by simp [fetch, ha, hq]))
    | cons w ws =>
      exact .of_fetch_runWord (.snk w) ⟨ha, by simp [hq]⟩ (by simp [fetch_sink ha hq, takeWord, hq])
  | groupSelect =>
    cases hq : s.env.gopQ with
    | nil => exact .waits (step_of_fetch_wait (by simp [fetch, ha, hq]))
    | cons w ws =>
      exact .of_fetch_runWord (.gop w.1 w.2) ⟨ha, by simp [hq]⟩
        (by simp [fetch_groupSelect ha hq, takeWord, hq])
  | adapter =>
    by_cases hp : s.state = .process
    · exact .processes ha hp (by simp [step, fetch, ha, hp])
    · exact .waits (step_of_fetch_wait (by simp [fetch, ha, hp]))
  | resetLine => exact .resets ha (step_of_resetLine ha)

/-! ## The port of an instruction (30_encoding.md R63, R76) -/

/-- The agent whose move is the transaction on the word's port. -/
def wordAgent : PortWord → Agent
  | .bus _ => .host
  | .src _ => .source
  | .snk _ => .sink
  | .gop _ _ => .groupSelect

/-- The agent whose move is the instruction. -/
def instrAgent : Instr → Agent
  | .startEncode | .startDecode | .clear | .regRead _ _ | .regWrite _ _ => .host
  | .srcData _ | .srcEof _ | .srcErr _ => .source
  | .snkAck | .snkErr => .sink
  | .enc3 _ | .enc2 _ | .enc1 _ | .dec0 _ | .dec1 _ | .dec2 _ => .groupSelect

theorem OnTurn.nextAgent_eq {s : State} {w : PortWord} (h : OnTurn s w) : nextAgent s = wordAgent w := by
  cases w <;> exact h.1

/-! ## What the host writes (30_encoding.md R65, R67) -/

/-- A register is found at its own offset only (30_encoding.md R70). -/
theorem regAt_ok {off : BitVec 8} {r : Reg} (h : regAt off = .ok r) : off = r.offset := by
  unfold regAt at h
  split at h
  case h_17 => split at h <;> cases h
  all_goals
    cases h
    apply BitVec.eq_of_toNat_eq
    assumption

theorem decodeCmd_eq_some {v : Word} {i : Instr} (h : decodeCmd v = some i) :
    i = .startEncode ∨ i = .startDecode ∨ i = .clear := by
  unfold decodeCmd at h
  split_ifs at h <;> cases h <;> simp

theorem decodeCmd_eq_none {v : Word} : decodeCmd v = none ↔ v ≠ 1#32 ∧ v ≠ 2#32 ∧ v ≠ 3#32 := by
  unfold decodeCmd
  split_ifs <;> simp_all

/-- The instruction is the write that the bus word carries: a command, or a register write that is no command. -/
inductive HostWrite (b : BitVec 41) : Instr → Prop
  | command (i : Instr) (hwe : b.getLsbD 40 = true) (hoff : b.extractLsb' 32 8 = 0x00#8)
      (hcmd : decodeCmd (b.extractLsb' 0 32) = some i) : HostWrite b i
  | register (r : Reg) (hwe : b.getLsbD 40 = true) (hoff : b.extractLsb' 32 8 = r.offset)
      (hcmd : r = .cmd → decodeCmd (b.extractLsb' 0 32) = none) : HostWrite b (.regWrite r (b.extractLsb' 0 32))

/-- A bus word that is a transaction is a read or a write of the host. -/
theorem decodeBus_ok {b : BitVec 41} {i : Instr} (h : decodeBus b = .ok i) :
    (∃ r v, i = .regRead r v) ∨ HostWrite b i := by
  unfold decodeBus at h
  dsimp only at h
  split at h
  · cases h
  next r hr =>
    have hoff := regAt_ok hr
    split at h
    next hwe =>
      split at h
      next j hj =>
        cases h
        exact .inr (.command _ hwe hoff hj)
      next hnot =>
        cases h
        exact .inr (.register _ hwe hoff fun hr => Option.eq_none_iff_forall_ne_some.mpr fun j => hnot j hr)
    · cases h
      exact .inl ⟨_, _, rfl⟩

theorem HostWrite.agent_eq {b : BitVec 41} {i : Instr} (h : HostWrite b i) : instrAgent i = .host := by
  cases h with
  | command _ _ _ hcmd => rcases decodeCmd_eq_some hcmd with rfl | rfl | rfl <;> rfl
  | register => rfl

/-- A word decodes to an instruction of its own port. -/
theorem decode_ok_agent {w : PortWord} {i : Instr} (h : decode w = .ok i) : instrAgent i = wordAgent w := by
  cases w with
  | bus b =>
    rcases decodeBus_ok h with ⟨r, v, rfl⟩ | hw
    · rfl
    · exact hw.agent_eq
  | src b =>
    simp only [decode, decodeSrc] at h
    split at h <;> cases h <;> rfl
  | snk b =>
    simp only [decode, decodeSnk] at h
    split at h <;> cases h <;> rfl
  | gop sel operand =>
    simp only [decode, decodeGop] at h
    split at h <;> cases h <;> rfl

/-! ## What only the host's writes and reset change -/

/-- What no step changes: the ROMs and the parameters (10_state.md R30, 00_scope.md R9). -/
structure SameFixed (s t : State) : Prop where
  fwd    : t.fwd = s.fwd
  rev    : t.rev = s.rev
  params : t.params = s.params

/-- What a transcode latches at its start, and the flag of rejected commands, are unchanged too. -/
structure SameSettings (s t : State) : Prop extends SameFixed s t where
  mode   : t.mode = s.mode
  eff    : t.eff = s.eff
  cmdRej : t.cmdRej = s.cmdRej

theorem SameSettings.withEnv (s : State) (e : Env) : SameSettings s { s with env := e } :=
  ⟨⟨rfl, rfl, rfl⟩, rfl, rfl, rfl⟩

theorem SameSettings.trans {s t u : State} (h : SameSettings s t) (h' : SameSettings t u) : SameSettings s u :=
  ⟨⟨h'.fwd.trans h.fwd, h'.rev.trans h.rev, h'.params.trans h.params⟩, h'.mode.trans h.mode, h'.eff.trans h.eff,
    h'.cmdRej.trans h.cmdRej⟩

/-- Commands are rejected in FILL, PROCESS and DRAIN (44_host_interface.md R145, R149). -/
theorem acceptsCommand_eq_false_iff (s : State) :
    acceptsCommand s = false ↔ s.state = .fill ∨ s.state = .process ∨ s.state = .drain := by
  unfold acceptsCommand
  cases s.state <;> simp

/-- A word that is no command is rejected (44_host_interface.md R149). -/
theorem command_of_noCommand {v : Word} (s : State) (h : decodeCmd v = none) : command v s = rejectCommand s := by
  obtain ⟨h1, h2, h3⟩ := decodeCmd_eq_none.mp h
  simp [command, h1, h2, h3]

/-- A write to a register other than CMD touches IE, CMD_REJ and the two requests at most. -/
theorem writeReg_of_ne_cmd {r : Reg} (hr : r ≠ .cmd) (v : Word) (s : State) :
    ∃ ie rej qe qd, writeReg r v s = { s with ie := ie, cmdRej := rej, reqBufEnc := qe, reqBufDec := qd } := by
  cases r with
  | cmd => exact absurd rfl hr
  | status =>
    simp only [writeReg]
    split <;> exact ⟨_, _, _, _, rfl⟩
  | _ => exact ⟨_, _, _, _, rfl⟩

theorem writeReg_cmdRej {r : Reg} (hr : r ≠ .cmd) (v : Word) (s : State) :
    (writeReg r v s).cmdRej = if r = .status ∧ v.getLsbD 8 = true then false else s.cmdRej := by
  cases r with
  | cmd => exact absurd rfl hr
  | status => cases hv : v.getLsbD 8 <;> simp only [writeReg, hv] <;> rfl
  | _ => simp [writeReg]

/-- What a write of the host does: START, CLEAR, a rejection, or a write to a register other than CMD. -/
theorem HostWrite.next_cases {b : BitVec 41} {i : Instr} {s t : State} (hw : HostWrite b i)
    (h : exec i s = .next t) :
    (∃ m, (i = .startEncode ∨ i = .startDecode) ∧ acceptsCommand s = true ∧ t = startTranscode m s) ∨
      (i = .clear ∧ acceptsCommand s = true ∧ t = toIdle s) ∨
      (b.getLsbD 40 = true ∧ b.extractLsb' 32 8 = 0x00#8 ∧
        (decodeCmd (b.extractLsb' 0 32) = none ∨ acceptsCommand s = false) ∧ t = rejectCommand s) ∨
      ∃ r, r ≠ .cmd ∧ i = .regWrite r (b.extractLsb' 0 32) ∧ t = writeReg r (b.extractLsb' 0 32) s := by
  cases hw with
  | command _ hwe hoff hcmd =>
    rcases decodeCmd_eq_some hcmd with rfl | rfl | rfl <;> obtain rfl := Host.Outcome.next.inj h
    · obtain ⟨ha, he⟩ | ⟨hn, he⟩ := tryCommand_cases (startTranscode .encode) s
      · exact .inl ⟨.encode, .inl rfl, ha, he⟩
      · exact .inr (.inr (.inl ⟨hwe, hoff, .inr hn, he⟩))
    · obtain ⟨ha, he⟩ | ⟨hn, he⟩ := tryCommand_cases (startTranscode .decode) s
      · exact .inl ⟨.decode, .inr rfl, ha, he⟩
      · exact .inr (.inr (.inl ⟨hwe, hoff, .inr hn, he⟩))
    · obtain ⟨ha, he⟩ | ⟨hn, he⟩ := tryCommand_cases toIdle s
      · exact .inr (.inl ⟨rfl, ha, he⟩)
      · exact .inr (.inr (.inl ⟨hwe, hoff, .inr hn, he⟩))
  | register r hwe hoff hcmd =>
    obtain rfl := Host.Outcome.next.inj h
    by_cases hr : r = .cmd
    · subst hr
      exact .inr (.inr (.inl ⟨hwe, hoff, .inl (hcmd rfl), command_of_noCommand s (hcmd rfl)⟩))
    · exact .inr (.inr (.inr ⟨r, hr, rfl, rfl⟩))

/-- No write of the host touches a ROM or a parameter. -/
theorem HostWrite.sameFixed {b : BitVec 41} {i : Instr} {s t : State} (hw : HostWrite b i)
    (h : exec i s = .next t) : SameFixed s t := by
  obtain ⟨m, -, -, rfl⟩ | ⟨-, -, rfl⟩ | ⟨-, -, -, rfl⟩ | ⟨r, hr, -, rfl⟩ := hw.next_cases h
  · exact ⟨rfl, rfl, rfl⟩
  · exact ⟨rfl, rfl, rfl⟩
  · exact ⟨rfl, rfl, rfl⟩
  · obtain ⟨ie, rej, qe, qd, he⟩ := writeReg_of_ne_cmd hr (b.extractLsb' 0 32) s
    rw [he]
    exact ⟨rfl, rfl, rfl⟩

theorem storeChunk_sameSettings {out : List Octet} {s t : State} (h : storeChunk out s = .next t) :
    SameSettings s t := by
  obtain ⟨m, -, rfl⟩ := storeChunk_next h
  split <;> exact ⟨⟨rfl, rfl, rfl⟩, rfl, rfl, rfl⟩

theorem execProc_sameSettings {s t : State} (h : execProc s = .next t) : SameSettings s t := by
  obtain ⟨chunk, -, ⟨-, hs⟩ | ⟨-, out, -, hs⟩ | ⟨-, e, -, rfl⟩⟩ := execProc_next h
  · exact storeChunk_sameSettings hs
  · exact storeChunk_sameSettings hs
  · exact ⟨⟨rfl, rfl, rfl⟩, rfl, rfl, rfl⟩

/-- Beats, responses and group selects leave the settings alone. -/
theorem exec_sameSettings {i : Instr} {s t : State} (hi : instrAgent i ≠ .host) (h : exec i s = .next t) :
    SameSettings s t := by
  cases i with
  | startEncode | startDecode | clear | regRead | regWrite => exact absurd rfl hi
  | srcData d =>
    obtain ⟨-, -, rfl⟩ | ⟨-, rfl⟩ := execSrcData_next h <;> exact ⟨⟨rfl, rfl, rfl⟩, rfl, rfl, rfl⟩
  | srcEof | srcErr | snkErr =>
    simp only [exec, execSrcEof, execSrcErr, execSnkErr] at h
    split at h <;> cases h
    all_goals exact ⟨⟨rfl, rfl, rfl⟩, rfl, rfl, rfl⟩
  | snkAck =>
    obtain ⟨-, b, -, -, rfl⟩ := execSnkAck_next h
    split <;> exact ⟨⟨rfl, rfl, rfl⟩, rfl, rfl, rfl⟩
  | enc3 | enc2 | enc1 | dec0 | dec1 | dec2 =>
    cases h
    exact ⟨⟨rfl, rfl, rfl⟩, rfl, rfl, rfl⟩

/-- A step keeps the settings, or is a reset, or is a write of the host. -/
theorem step_next_settings {s t : State} (h : step s = .next t) :
    SameSettings s t ∨ (nextAgent s = .resetLine ∧ t = resetBlock (dropTurn s)) ∨
      ∃ b i e, nextAgent s = .host ∧ s.env.busQ.head? = some b ∧ decode (.bus b) = .ok i ∧ HostWrite b i ∧
        exec i { s with env := e } = .next t := by
  cases step_cases s with
  | waits hstep =>
    obtain rfl := Host.Outcome.next.inj (hstep.symm.trans h)
    exact .inl (.withEnv s _)
  | resets hturn hstep => exact .inr (.inl ⟨hturn, Host.Outcome.next.inj (h.symm.trans hstep)⟩)
  | processes _ _ hstep => exact .inl (.trans (.withEnv s _) (execProc_sameSettings (hstep ▸ h)))
  | refuses _ _ _ _ hstep =>
    rw [hstep] at h
    cases h
  | runs w i hturn hdecode hstep =>
    rw [hstep] at h
    obtain ⟨e, he⟩ := takeWord_eq_withEnv w s
    rw [he] at h
    by_cases ha : instrAgent i = .host
    · cases w with
      | bus b =>
        rcases decodeBus_ok hdecode with ⟨r, v, rfl⟩ | hw
        · cases h
          exact .inl (.withEnv s _)
        · exact .inr (.inr ⟨b, i, e, hturn.1, hturn.2, hdecode, hw, h⟩)
      | src | snk | gop => exact absurd ((decode_ok_agent hdecode).symm.trans ha) (by simp [wordAgent])
    · exact .inl (.trans (.withEnv s e) (exec_sameSettings ha h))

end Sys2Proof.Machine
end

section
/-! PROOFS. What changes the ROMs, the latched settings and CMD_REJ (10_state.md R20, R21, R28, R30). -/

namespace Sys2Proof.Machine

/-- Settles O36: neither a step that keeps the settings, nor reset, nor a write of the host touches them. -/
theorem romsNeverChange : Obligations.RomsNeverChange := by
  intro s t h
  have key : SameFixed s t := by
    obtain hs | ⟨-, rfl⟩ | ⟨b, i, e, -, -, -, hw, he⟩ := step_next_settings h
    · exact hs.toSameFixed
    · exact ⟨rfl, rfl, rfl⟩
    · exact ⟨(hw.sameFixed he).fwd, (hw.sameFixed he).rev, (hw.sameFixed he).params⟩
  exact ⟨key.fwd, key.rev, key.params⟩

/-- Settles O52: of the steps that do not keep the settings, only reset and an accepted START write MODE or EFF. -/
theorem modeAndSizeLatchedAtStart : Obligations.ModeAndSizeLatchedAtStart := by
  intro s t h hne
  have hchanged : ¬(t.mode = s.mode ∧ t.eff = s.eff) := not_and_or.mpr hne
  obtain hs | ⟨ha, -⟩ | ⟨b, i, e, ha, hq, hd, hw, he⟩ := step_next_settings h
  · exact absurd ⟨hs.mode, hs.eff⟩ hchanged
  · exact .inl ha
  obtain ⟨m, hi, hacc, rfl⟩ | ⟨-, -, rfl⟩ | ⟨-, -, -, rfl⟩ | ⟨r, hr, -, rfl⟩ := hw.next_cases he
  · refine .inr ⟨ha, (acceptsCommand_iff _).mp hacc, rfl, b, hq, ?_⟩
    rcases hi with rfl | rfl
    · exact .inl hd
    · exact .inr hd
  · exact absurd ⟨rfl, rfl⟩ hchanged
  · exact absurd ⟨rfl, rfl⟩ hchanged
  · obtain ⟨ie, rej, qe, qd, hwr⟩ := writeReg_of_ne_cmd hr (b.extractLsb' 0 32) { s with env := e }
    rw [hwr] at hchanged
    exact absurd ⟨rfl, rfl⟩ hchanged

/-- Settles O59: a rejected write to CMD is the only step that sets the flag, and a write to STATUS or a reset the only
one that clears it. -/
theorem commandRejectedIsSticky : Obligations.CommandRejectedIsSticky := by
  intro s t h
  obtain hs | ⟨ha, rfl⟩ | ⟨b, i, e, ha, hq, hd, hw, he⟩ := step_next_settings h
  · have hsame := hs.cmdRej
    exact ⟨by simp_all, by simp_all⟩
  · exact ⟨fun _ _ => .inl ha, by simp⟩
  obtain ⟨m, -, -, rfl⟩ | ⟨-, -, rfl⟩ | ⟨hwe, hoff, hrej, rfl⟩ | ⟨r, hr, hi, rfl⟩ := hw.next_cases he
  case inl | inr.inl => exact ⟨by simp_all, by simp_all⟩
  case inr.inr.inl =>
    refine ⟨by simp, fun _ _ => ⟨ha, b, hq, hwe, hoff, ?_⟩⟩
    exact hrej.imp decodeCmd_eq_none.mp (acceptsCommand_eq_false_iff _).mp
  case inr.inr.inr =>
    rw [writeReg_cmdRej hr]
    split
    next hst => exact ⟨fun _ _ => .inr ⟨ha, b, _, hq, hst.2, by rw [hd, hi, hst.1]⟩, by simp⟩
    · exact ⟨by simp_all, by simp_all⟩

end Sys2Proof.Machine
end

section
/-! PROOFS. The sizes that the buffers must hold: the effective size, and the output of a chunk (43_stream_adapter.md
R120, R121; 41_encoder.md R95; 42_decoder.md R112). -/

namespace Sys2Proof.Machine

theorem effectiveSize_bounds (m : Mode) (req : Nat) {bufMax : Nat} (h : 4 ≤ bufMax) :
    effectiveSize (groupSize m) req bufMax % groupSize m = 0 ∧ 0 < effectiveSize (groupSize m) req bufMax ∧
      effectiveSize (groupSize m) req bufMax ≤ bufMax := by
  cases m <;> simp only [effectiveSize, groupSize] <;> omega

theorem encodeChunk_length (fwd : FwdRom) (b : List Octet) : (encodeChunk fwd b).length = (b.length + 2) / 3 * 4 := by
  induction b using encodeChunk.induct with
  | case1 o0 o1 o2 rest ih =>
    simp only [encodeChunk, encodeGroup3, List.length_append, ih, List.length_cons, List.length_nil]
    omega
  | case2 o0 o1 => simp [encodeChunk, encodeGroup2]
  | case3 o0 => simp [encodeChunk, encodeGroup1]
  | case4 => rfl

theorem decodeLast_length_le (rev : RevRom) (p : Nat) (c0 c1 c2 c3 : Octet) :
    (decodeLast rev p c0 c1 c2 c3).length ≤ 3 := by
  unfold decodeLast
  dsimp only
  split <;> simp [decodeGroup0, decodeGroup1, decodeGroup2]

theorem decodeGroups_length_le (rev : RevRom) (p : Nat) (t : List Octet) :
    (decodeGroups rev p t).length ≤ t.length / 4 * 3 := by
  induction t using decodeGroups.induct with
  | case1 c0 c1 c2 c3 =>
    simpa [decodeGroups] using decodeLast_length_le rev p c0 c1 c2 c3
  | case2 c0 c1 c2 c3 c rest ih =>
    have hlast := decodeLast_length_le rev 0 c0 c1 c2 c3
    rw [decodeGroups, List.length_append]
    simp only [List.length_cons] at ih ⊢
    omega
  | case3 => simp [decodeGroups]

theorem stripNewline_length_le (t : List Octet) : (stripNewline t).length ≤ t.length := by
  unfold stripNewline
  split <;> simp

/-- What a chunk that decodes gives. -/
theorem decodeChunk_ok {rev : RevRom} {t out : List Octet} (h : decodeChunk rev t = .ok out) :
    out = decodeGroups rev (padCount (stripNewline t)) (stripNewline t) := by
  unfold decodeChunk at h
  dsimp only at h
  split_ifs at h
  split at h <;> cases h
  rfl

theorem decodeChunk_length_le {rev : RevRom} {t out : List Octet} (h : decodeChunk rev t = .ok out) :
    out.length ≤ t.length / 4 * 3 := by
  have hgroups := decodeGroups_length_le rev (padCount (stripNewline t)) (stripNewline t)
  have hstrip := stripNewline_length_le t
  rw [decodeChunk_ok h]
  omega

/-- A chunk that does not decode names a character only where that character is illegal (10_state.md R39). -/
theorem decodeChunk_error_char {rev : RevRom} {t : List Octet} {e : ChunkError} (h : decodeChunk rev t = .error e) :
    e.char ≠ 0#8 → e.cause = .illegalChar := by
  unfold decodeChunk at h
  dsimp only at h
  split_ifs at h
  · cases h; simp
  · cases h; simp
  · split at h <;> cases h
    exact fun _ => rfl

/-- A chunk that PROC can take fits OBUF once encoded, where the buffer's size is a whole number of groups. -/
theorem encode_fits {cnt eff : Nat} {p : Params} (hcnt : cnt ≤ eff) (heff : eff ≤ p.bufSize) (hwhole : eff % 3 = 0) :
    (cnt + 2) / 3 * 4 ≤ p.obufSize := by
  simp only [Params.bufSize, Params.obufSize] at *
  omega

theorem decode_fits {cnt : Nat} {p : Params} (hcnt : cnt ≤ p.bufSize) : cnt / 4 * 3 ≤ p.obufSize :=
  Nat.mul_le_mul (Nat.div_le_div hcnt (by decide) (by decide)) (by decide)

theorem Memory.readRange_of_filled {size : Nat} {m : Memory} {a n : Nat} (hsize : a + n ≤ size)
    (h : ∀ k, k < n → (lookup m (a + k)).isSome = true) : ∃ bs, readRange size m a n = .ok bs := by
  induction n generalizing a with
  | zero => exact ⟨[], rfl⟩
  | succ n ih =>
    obtain ⟨b, hb⟩ := Option.isSome_iff_exists.mp (h 0 n.succ_pos)
    have hread : read size m a = .ok b := read_ok.mpr ⟨by omega, hb⟩
    obtain ⟨bs, hbs⟩ := ih (a := a + 1) (by omega) fun k hk => by
      rw [Nat.add_assoc, Nat.add_comm 1 k]
      exact h (k + 1) (by omega)
    exact ⟨b :: bs, by simp [readRange, hread, hbs]⟩

end Sys2Proof.Machine
end

section
/-! PROOFS. The invariant is kept by each named update of the state, by every instruction and by PROC
(10_state.md R47). -/

namespace Sys2Proof.Machine

/-! ## Updates -/

/-- The invariant does not speak of the environment, the free values, the flags, the requests and the counters. -/
theorem Inv.frame {s : State} (h : Inv s) (env : Env) (free : Nat) (ie rej : Bool) (qe qd oc cc : Word) :
    Inv { s with
      env := env, freeCount := free, ie := ie, cmdRej := rej, reqBufEnc := qe, reqBufDec := qd
      outCount := oc, chunkCount := cc } := { h with }

theorem inv_resetBlock {s : State} (h : s.params.wf = true) : Inv (resetBlock s) where
  paramsOk := h
  bufWf := rfl
  obufWf := rfl
  bufFilled := by simp [Memory.filled]
  obufFilled := by simp [Memory.filled]
  cntLeEff := by simp
  effLeMax := by simp
  optrLeOcnt := by simp
  ocntLeMax := by simp
  effZero := by simp
  effWhole := by simp
  inFill := by simp
  inProcess := by simp
  inDrain := by simp
  noneOffered := by simp
  errClear := by simp
  errKnown := by simp
  errCharOnly := by simp

theorem inv_startTranscode {s : State} (h : Inv s) (m : Mode) : Inv (startTranscode m s) := by
  have hmax : 4 ≤ s.params.bufSize := by simpa [Params.wf, Params.bufSize] using h.paramsOk
  obtain ⟨hwhole, hpos, hle⟩ := effectiveSize_bounds m (request m s).toNat hmax
  have heff : (startTranscode m s).eff.toNat =
      effectiveSize (groupSize m) (request m s).toNat s.params.bufSize := by
    have hword : s.params.bufSize < 2 ^ 32 := s.params.bufMax.isLt
    rw [startTranscode_eff, BitVec.toNat_ofNat, Nat.mod_eq_of_lt (by omega)]
  exact { h with
    bufFilled := by simp [Memory.filled]
    obufFilled := by simp [Memory.filled]
    cntLeEff := Nat.zero_le _
    effLeMax := heff ▸ hle
    optrLeOcnt := Nat.le_refl _
    ocntLeMax := Nat.zero_le _
    effZero := fun h0 => by omega
    effWhole := heff ▸ hwhole
    inFill := fun _ => ⟨rfl, heff ▸ hpos⟩
    inProcess := by simp
    inDrain := by simp
    noneOffered := by simp
    errClear := by simp
    errKnown := by simp
    errCharOnly := by simp }

theorem inv_toIdle {s : State} (h : Inv s) : Inv (toIdle s) :=
  { h with
    effZero := by simp
    inFill := by simp
    inProcess := by simp
    inDrain := by simp
    noneOffered := by simp
    errClear := by simp
    errKnown := by simp
    errCharOnly := by simp }

theorem inv_rejectCommand {s : State} (h : Inv s) : Inv (rejectCommand s) := h.frame ..

/-- Entering ERROR from a state in which a transcode runs. -/
theorem inv_enterError {s : State} (h : Inv s) (hrun : s.state ≠ .idle) {cause : ErrCause} {char : Octet}
    (hchar : char ≠ 0#8 → cause = .illegalChar) (pos len : Word) : Inv (enterError cause char pos len s) :=
  { h with
    effZero := fun h0 => absurd (h.effZero h0) hrun
    inFill := by simp
    inProcess := by simp
    inDrain := by simp
    noneOffered := by simp
    errClear := by simp
    errKnown := by cases cause <;> simp [errCodeOf]
    errCharOnly := fun hc => by simp [hchar hc, errCodeOf] }

/-- An octet accepted in FILL either leaves room in the chunk or completes it. -/
theorem inv_acceptOctet {s : State} (h : Inv s) (hfill : s.state = .fill) (d : Octet) :
    Inv (acceptOctet (Memory.insert s.buf s.cnt d) s) := by
  obtain ⟨heof, hroom⟩ := h.inFill hfill
  have hsize : s.cnt < s.params.bufSize := Nat.lt_of_lt_of_le hroom h.effLeMax
  have hstate : ((acceptOctet (Memory.insert s.buf s.cnt d) s).state = .process ∧ s.cnt + 1 = s.eff.toNat) ∨
      ((acceptOctet (Memory.insert s.buf s.cnt d) s).state = .fill ∧ s.cnt + 1 < s.eff.toNat) := by
    rw [acceptOctet_state]
    split
    next hfull => exact .inl ⟨rfl, hfull⟩
    next hnot => exact .inr ⟨hfill, by omega⟩
  exact { h with
    bufWf := Memory.wf_insert d hsize h.bufWf
    bufFilled := fun a ha => by
      rw [acceptOctet_buf]
      by_cases hac : a = s.cnt
      · rw [hac, Memory.lookup_insert_self]
        rfl
      · rw [Memory.lookup_insert_other _ _ hac]
        exact h.bufFilled a (by rw [acceptOctet_cnt] at ha; omega)
    cntLeEff := hroom
    effZero := fun h0 => by rw [acceptOctet_eff] at h0; omega
    inFill := fun hst => by
      rcases hstate with ⟨he, -⟩ | ⟨-, hlt⟩
      · rw [he] at hst; cases hst
      · exact ⟨heof, hlt⟩
    inProcess := fun hst => by
      rcases hstate with ⟨-, hfull⟩ | ⟨he, -⟩
      · exact ⟨Nat.succ_pos _, fun _ => hfull, fun ht => by simp [heof] at ht⟩
      · rw [he] at hst; cases hst
    inDrain := by rcases hstate with ⟨he, -⟩ | ⟨he, -⟩ <;> rw [he] <;> exact nofun
    noneOffered := fun _ => h.noneOffered (.inl hfill)
    errClear := fun _ => h.errClear (by simp [hfill])
    errKnown := by rcases hstate with ⟨he, -⟩ | ⟨he, -⟩ <;> rw [he] <;> exact nofun }

/-- SRC_EOF in FILL leaves the chunk gathered so far to PROC, or ends the transcode. -/
theorem inv_endOfInput {s : State} (h : Inv s) (hfill : s.state = .fill) : Inv (endOfInput s) := by
  obtain ⟨-, hroom⟩ := h.inFill hfill
  have hstate : ((endOfInput s).state = .process ∧ 0 < s.cnt) ∨ (endOfInput s).state = .done := by
    rw [endOfInput_state]
    split
    next hpos => exact .inl ⟨rfl, hpos⟩
    · exact .inr rfl
  exact { h with
    effZero := fun h0 => by rw [endOfInput_eff] at h0; omega
    inFill := by rcases hstate with ⟨he, -⟩ | he <;> rw [he] <;> exact nofun
    inProcess := fun hst => by
      rcases hstate with ⟨-, hpos⟩ | he
      · exact ⟨hpos, nofun, fun _ => hroom⟩
      · rw [he] at hst; cases hst
    inDrain := by rcases hstate with ⟨he, -⟩ | he <;> rw [he] <;> exact nofun
    noneOffered := fun _ => h.noneOffered (.inl hfill)
    errClear := fun _ => h.errClear (by simp [hfill])
    errKnown := by rcases hstate with ⟨he, -⟩ | he <;> rw [he] <;> exact nofun }

/-- The end of a chunk, wherever a transcode runs (43_stream_adapter.md R128). -/
theorem inv_endOfChunk {s : State} (h : Inv s) (hidle : s.state ≠ .idle) (herror : s.state ≠ .error) :
    Inv (endOfChunk s) := by
  have hstate : ((endOfChunk s).state = .fill ∧ s.eofSeen = false) ∨ (endOfChunk s).state = .done := by
    rw [endOfChunk_state]
    cases s.eofSeen <;> simp
  have hpos : 0 < s.eff.toNat := Nat.pos_of_ne_zero fun h0 => hidle (h.effZero h0)
  exact { h with
    bufFilled := by simp [Memory.filled]
    obufFilled := by simp [Memory.filled]
    cntLeEff := Nat.zero_le _
    optrLeOcnt := Nat.le_refl _
    ocntLeMax := Nat.zero_le _
    effZero := fun h0 => absurd (h.effZero h0) hidle
    inFill := fun hst => by
      rcases hstate with ⟨-, heof⟩ | he
      · exact ⟨heof, hpos⟩
      · rw [he] at hst; cases hst
    inProcess := by rcases hstate with ⟨he, -⟩ | he <;> rw [he] <;> exact nofun
    inDrain := by rcases hstate with ⟨he, -⟩ | he <;> rw [he] <;> exact nofun
    noneOffered := fun _ => ⟨rfl, rfl⟩
    errClear := fun _ => h.errClear herror
    errKnown := by rcases hstate with ⟨he, -⟩ | he <;> rw [he] <;> exact nofun }

/-- A chunk's output, if there is any, is on offer once it lies in OBUF. -/
theorem inv_offerChunk {s : State} (h : Inv s) (hproc : s.state = .process) {m : Memory} {out : List Octet}
    (hwrite : Memory.writeRange s.params.obufSize s.obuf 0 out = .ok m) (hfit : out.length ≤ s.params.obufSize)
    (hpos : 0 < out.length) : Inv (offerChunk m out.length s) :=
  { h with
    obufWf := Memory.wf_writeRange hwrite h.obufWf
    obufFilled := fun a ha => by
      rw [offerChunk_ocnt] at ha
      rw [offerChunk_obuf, Memory.lookup_writeRange hwrite a, if_pos (by omega)]
      simpa using ha
    optrLeOcnt := Nat.zero_le _
    ocntLeMax := hfit
    effZero := fun h0 => absurd (h.effZero h0) (by simp [hproc])
    inFill := nofun
    inProcess := nofun
    inDrain := fun _ => hpos
    noneOffered := nofun
    errClear := fun _ => h.errClear (by simp [hproc])
    errKnown := nofun }

/-- An octet accepted in DRAIN that is not the chunk's last. -/
theorem inv_giveOctet {s : State} (h : Inv s) (hdrain : s.state = .drain) (hmore : s.optr + 1 ≠ s.ocnt) (b : Octet) :
    Inv (giveOctet b s) := by
  have hlt : s.optr + 1 < s.ocnt := by have := h.inDrain hdrain; omega
  exact { h with
    optrLeOcnt := hlt.le
    inDrain := fun _ => hlt
    noneOffered := by simp [hdrain] }

/-! ## Instructions and PROC -/

theorem inv_tryCommand {s : State} (h : Inv s) {effect : State → State} (heffect : Inv (effect s)) :
    Inv (tryCommand effect s) := by
  rcases tryCommand_cases effect s with ⟨-, he⟩ | ⟨-, he⟩ <;> rw [he]
  · exact heffect
  · exact inv_rejectCommand h

theorem inv_command {s : State} (h : Inv s) (v : Word) : Inv (command v s) := by
  unfold command
  split_ifs
  · exact inv_tryCommand h (inv_startTranscode h .encode)
  · exact inv_tryCommand h (inv_startTranscode h .decode)
  · exact inv_tryCommand h (inv_toIdle h)
  · exact inv_rejectCommand h

theorem inv_writeReg {s : State} (h : Inv s) (r : Reg) (v : Word) : Inv (writeReg r v s) := by
  by_cases hr : r = .cmd
  · subst hr
    exact inv_command h v
  · obtain ⟨ie, rej, qe, qd, he⟩ := writeReg_of_ne_cmd hr v s
    rw [he]
    exact h.frame ..

/-- Every instruction keeps the invariant. -/
theorem inv_exec {s t : State} (h : Inv s) {i : Instr} (hexec : exec i s = .next t) : Inv t := by
  cases i with
  | startEncode => cases hexec; exact inv_tryCommand h (inv_startTranscode h .encode)
  | startDecode => cases hexec; exact inv_tryCommand h (inv_startTranscode h .decode)
  | clear => cases hexec; exact inv_tryCommand h (inv_toIdle h)
  | regRead => cases hexec; exact h.frame ..
  | regWrite r v => cases hexec; exact inv_writeReg h r v
  | srcData d =>
    obtain ⟨hfill, -, rfl⟩ | ⟨-, rfl⟩ := execSrcData_next hexec
    · exact inv_acceptOctet h hfill d
    · exact h.frame ..
  | srcEof d =>
    simp only [exec, execSrcEof] at hexec
    split at hexec <;> cases hexec
    next hfill => exact inv_endOfInput h hfill
    · exact h.frame ..
  | srcErr d =>
    simp only [exec, execSrcErr] at hexec
    split at hexec <;> cases hexec
    next hfill => exact inv_enterError h (by simp [hfill]) (absurd rfl) _ _
    · exact h.frame ..
  | snkAck =>
    obtain ⟨hdrain, b, -, -, rfl⟩ := execSnkAck_next hexec
    split
    · exact (inv_endOfChunk h (by simp [hdrain]) (by simp [hdrain])).frame ..
    next hmore => exact inv_giveOctet h hdrain hmore b
  | snkErr =>
    simp only [exec, execSnkErr] at hexec
    split at hexec <;> cases hexec
    next hdrain => exact inv_enterError h (by simp [hdrain]) (absurd rfl) _ _
  | enc3 | enc2 | enc1 | dec0 | dec1 | dec2 => cases hexec; exact h.frame ..

theorem inv_storeChunk {s t : State} (h : Inv s) (hproc : s.state = .process) {out : List Octet}
    (hfit : out.length ≤ s.params.obufSize) (hpos : s.mode = .encode → 0 < out.length)
    (hstore : storeChunk out s = .next t) : Inv t := by
  obtain ⟨m, hwrite, rfl⟩ := storeChunk_next hstore
  split
  next hempty =>
    obtain rfl := List.length_eq_zero_iff.mp hempty.2
    cases hwrite
    exact (inv_endOfChunk h (by simp [hproc]) (by simp [hproc])).frame ..
  next hnot =>
    refine inv_offerChunk h hproc hwrite hfit ?_
    cases hm : s.mode with
    | encode => exact hpos hm
    | decode => exact Nat.pos_of_ne_zero fun h0 => hnot ⟨hm, h0⟩

/-- The output of the chunk that PROC takes fits OBUF (43_stream_adapter.md R121). -/
theorem encodeChunk_fits {s : State} (h : Inv s) (hmode : s.mode = .encode) {chunk : List Octet}
    (hlen : chunk.length = s.cnt) : (encodeChunk s.fwd chunk).length ≤ s.params.obufSize := by
  have hwhole := h.effWhole
  rw [hmode] at hwhole
  rw [encodeChunk_length, hlen]
  exact encode_fits h.cntLeEff h.effLeMax hwhole

theorem decodeChunk_fits {s : State} (h : Inv s) {chunk out : List Octet} (hlen : chunk.length = s.cnt)
    (hdecode : decodeChunk s.rev chunk = .ok out) : out.length ≤ s.params.obufSize := by
  have hout := decodeChunk_length_le hdecode
  rw [hlen] at hout
  exact hout.trans (decode_fits (h.cntLeEff.trans h.effLeMax))

/-- PROC keeps the invariant. -/
theorem inv_execProc {s t : State} (h : Inv s) (hproc : s.state = .process) (hexec : execProc s = .next t) : Inv t := by
  obtain ⟨chunk, hread, hcase⟩ := execProc_next hexec
  have hlen : chunk.length = s.cnt := (Memory.readRange_ok.mp hread).1
  obtain ⟨hcnt, -, -⟩ := h.inProcess hproc
  obtain ⟨hmode, hstore⟩ | ⟨hmode, out, hdecode, hstore⟩ | ⟨-, e, hdecode, rfl⟩ := hcase
  · refine inv_storeChunk h hproc (encodeChunk_fits h hmode hlen) (fun _ => ?_) hstore
    rw [encodeChunk_length]
    omega
  · exact inv_storeChunk h hproc (decodeChunk_fits h hlen hdecode) (fun he => by simp [hmode] at he) hstore
  · exact inv_enterError h (by simp [hproc]) (decodeChunk_error_char hdecode) _ _

theorem inv_dropTurn {s : State} (h : Inv s) : Inv (dropTurn s) := h.frame ..

theorem inv_takeWord {s : State} (h : Inv s) (w : PortWord) : Inv (takeWord w s) := by
  cases w <;> exact h.frame ..

/-! ## The obligations -/

/-- Settles O49: each agent's move keeps the invariant. -/
theorem stepKeepsInvariant : Obligations.StepKeepsInvariant := by
  intro s t h hnext
  cases step_cases s with
  | waits hstep =>
    obtain rfl := Host.Outcome.next.inj (hstep.symm.trans hnext)
    exact inv_dropTurn h
  | resets _ hstep =>
    obtain rfl := Host.Outcome.next.inj (hstep.symm.trans hnext)
    exact inv_resetBlock h.paramsOk
  | processes _ hproc hstep => exact inv_execProc (inv_dropTurn h) hproc (hstep.symm.trans hnext)
  | refuses _ _ _ _ hstep => cases hstep.symm.trans hnext
  | runs w _ _ _ hstep => exact inv_exec (inv_takeWord h w) (hstep.symm.trans hnext)

/-- Settles O48: the state after reset is one that the reset event leaves. -/
theorem resetMeetsInvariant : Obligations.ResetMeetsInvariant :=
  inv_resetBlock (s := State.reset) rfl

/-! ## No faults -/

/-- Where the invariant holds an instruction completes, unless it is a response of the sink outside DRAIN. -/
theorem exec_outcome {s : State} (h : Inv s) (i : Instr) :
    Completes (exec i s) ∨ (instrAgent i = .sink ∧ s.state ≠ .drain ∧ exec i s = .refused .sinkOutsideDrain) := by
  cases i with
  | srcData d =>
    left
    by_cases hfill : s.state = .fill
    · have hroom : s.cnt < s.params.bufSize := Nat.lt_of_lt_of_le (h.inFill hfill).2 h.effLeMax
      exact ⟨_, by simp only [exec, execSrcData, if_pos hfill, Memory.write_of_lt _ _ hroom]; rfl⟩
    · exact ⟨_, if_neg hfill⟩
  | srcEof | srcErr =>
    left
    by_cases hfill : s.state = .fill
    · exact ⟨_, if_pos hfill⟩
    · exact ⟨_, if_neg hfill⟩
  | snkAck =>
    by_cases hdrain : s.state = .drain
    · have hlt := h.inDrain hdrain
      obtain ⟨b, hb⟩ := Option.isSome_iff_exists.mp (h.obufFilled _ hlt)
      have hread := Memory.read_ok.mpr ⟨Nat.lt_of_lt_of_le hlt h.ocntLeMax, hb⟩
      exact .inl ⟨_, by simp only [exec, execSnkAck, if_pos hdrain, hread]; rfl⟩
    · exact .inr ⟨rfl, hdrain, if_neg hdrain⟩
  | snkErr =>
    by_cases hdrain : s.state = .drain
    · exact .inl ⟨_, if_pos hdrain⟩
    · exact .inr ⟨rfl, hdrain, if_neg hdrain⟩
  | _ => exact .inl ⟨_, rfl⟩

theorem storeChunk_completes {s : State} {out : List Octet} (hfit : out.length ≤ s.params.obufSize) :
    Completes (storeChunk out s) := by
  obtain ⟨m, hm⟩ := Memory.writeRange_of_le (size := s.params.obufSize) s.obuf 0 out (by omega)
  exact ⟨_, by simp only [storeChunk, hm]; rfl⟩

/-- Where the invariant holds PROC completes. -/
theorem execProc_completes {s : State} (h : Inv s) : Completes (execProc s) := by
  have hsize : 0 + s.cnt ≤ s.params.bufSize := by
    rw [Nat.zero_add]
    exact h.cntLeEff.trans h.effLeMax
  obtain ⟨chunk, hread⟩ := Memory.readRange_of_filled hsize fun k hk => by
    rw [Nat.zero_add]
    exact h.bufFilled k hk
  have hlen : chunk.length = s.cnt := (Memory.readRange_ok.mp hread).1
  simp only [execProc, hread]
  split
  next hmode => exact storeChunk_completes (encodeChunk_fits h hmode hlen)
  · split
    next out hdecode => exact storeChunk_completes (decodeChunk_fits h hlen hdecode)
    · exact ⟨_, rfl⟩

/-- Settles O50: with the invariant every move completes, but a word that does not decode and a response of the sink
outside DRAIN. -/
theorem invariantRulesOutFaults : Obligations.InvariantRulesOutFaults := by
  intro s h
  have key : Completes (step s) ∨ ∃ r, step s = .refused r ∧
      ((∃ e, r = .badWord e) ∨ (r = .sinkOutsideDrain ∧ s.state ≠ .drain ∧ nextAgent s = .sink)) := by
    cases step_cases s with
    | waits hstep => exact .inl ⟨_, hstep⟩
    | resets _ hstep => exact .inl ⟨_, hstep⟩
    | processes _ _ hstep => exact .inl (hstep ▸ execProc_completes (inv_dropTurn h))
    | refuses _ e _ _ hstep => exact .inr ⟨_, hstep, .inl ⟨e, rfl⟩⟩
    | runs w i hturn hdecode hstep =>
      rw [hstep]
      refine (exec_outcome (inv_takeWord h w) i).imp_right fun ⟨hagent, hstate, hexec⟩ => ⟨_, hexec, .inr ⟨rfl, ?_, ?_⟩⟩
      · obtain ⟨e, he⟩ := takeWord_eq_withEnv w s
        rwa [he] at hstate
      · rw [hturn.nextAgent_eq, ← decode_ok_agent hdecode, hagent]
  obtain ⟨t, hnext⟩ | ⟨r, href, hr⟩ := key
  · exact ⟨fun f hf => by simp [hnext] at hf, fun r hr => by simp [hnext] at hr⟩
  · exact ⟨fun f hf => by simp [href] at hf, fun r' hr' => by cases href.symm.trans hr'; exact hr⟩

end Sys2Proof.Machine
end

section
/-! PROOFS. The bits of STATUS (10_state.md R34) and the flags it is made of. -/

namespace Sys2Proof.Machine

variable (s : State)

/-! ## The bits -/

theorem statusWord_state : (statusWord s).extractLsb' 0 3 = stateCode s.state := by
  apply BitVec.eq_of_getLsbD_eq
  intro i hi
  rw [BitVec.getLsbD_extractLsb', statusWord, BitVec.getLsbD_setWidth, BitVec.getLsbD_append, if_pos (by omega)]
  simp [hi, Nat.lt_trans hi]

theorem statusWord_flags :
    (statusWord s).getLsbD 3 = modeBit s.mode ∧ (statusWord s).getLsbD 4 = s.eofSeen ∧
      (statusWord s).getLsbD 5 = busy s ∧ (statusWord s).getLsbD 6 = irq s ∧
      (statusWord s).getLsbD 7 = errFlag s ∧ (statusWord s).getLsbD 8 = s.cmdRej := by
  simp only [statusWord, BitVec.getLsbD_setWidth, BitVec.getLsbD_append, BitVec.getLsbD_ofBool]
  simp

/-- The fields fill nine bits; the others are the extension's zeros. -/
theorem statusWord_reserved : (statusWord s).extractLsb' 9 23 = 0#23 := by
  apply BitVec.eq_of_getLsbD_eq
  intro i _
  rw [BitVec.getLsbD_extractLsb', statusWord, BitVec.getLsbD_setWidth, BitVec.getLsbD_of_ge _ (9 + i) (by omega)]
  simp

/-! ## The flags -/

theorem modeBit_iff (m : Mode) : modeBit m = true ↔ m = .decode := by
  cases m <;> simp [modeBit]

theorem busy_iff : busy s = true ↔ s.state = .fill ∨ s.state = .process ∨ s.state = .drain := by
  unfold busy
  cases s.state <;> simp

theorem errFlag_iff : errFlag s = true ↔ s.state = .error := by
  simp [errFlag]

theorem irq_iff : irq s = true ↔ s.ie = true ∧ (s.state = .done ∨ s.state = .error) := by
  simp [irq]

end Sys2Proof.Machine
end

section
/-! PROOFS. The obligations on fixed words, reset, STATUS and the read-only words of the register window. -/

namespace Sys2Proof.Machine

/-- Settles O1: the decoder evaluates on each of the fixed words. -/
theorem specWordsDecode : Obligations.SpecWordsDecode := by
  unfold Obligations.SpecWordsDecode
  and_intros <;> rfl

/-- Settles O9: on the reset line's turn the step is the reset event. -/
theorem resetFromAnyState : Obligations.ResetFromAnyState := fun _ h => step_of_resetLine h

/-- Settles O17, field by field. -/
theorem statusFieldPositions : Obligations.StatusFieldPositions := by
  intro s
  obtain ⟨hmode, heof, hbusy, hirq, herr, hrej⟩ := statusWord_flags s
  refine ⟨?state, ?mode, heof, ?busy, hirq, irq_iff s, ?err, hrej, statusWord_reserved s⟩
  case state =>
    rw [statusWord_state]
    cases s.state <;> rfl
  case mode => rw [hmode, modeBit_iff]
  case busy => rw [hbusy, busy_iff]
  case err => rw [herr, errFlag_iff]

/-- Settles O19: each of the eleven words ignores what is written to it. -/
theorem regWriteReadOnlyIgnored : Obligations.RegWriteReadOnlyIgnored := by
  intro s w r hr
  simp only [List.mem_cons, List.not_mem_nil, or_false] at hr
  rcases hr with rfl | rfl | rfl | rfl | rfl | rfl | rfl | rfl | rfl | rfl | rfl <;> rfl

/-- Settles O60: the values are the ones `State.reset` writes down; irq and STATUS are computed from them. -/
theorem resetStateValues : Obligations.ResetStateValues := by
  unfold Obligations.ResetStateValues
  and_intros <;> rfl

end Sys2Proof.Machine
end

section
/-! PROOFS. The decoder said once: a word put together again from its fields, an equation for each way a BUS word decodes,
which words are refused, and which instruction a word that decodes is the word of (spec 30_encoding.md R65 to R72). -/

namespace Sys2Proof.Machine

/-! ## A word is its fields -/

theorem busWord_of_fields {b : BitVec 41} {we : Bool} {off : BitVec 8} {v : Word} (hwe : b.getLsbD 40 = we)
    (hoff : b.extractLsb' 32 8 = off) (hv : b.extractLsb' 0 32 = v) : busWord we off v = b := by
  subst hwe hoff hv
  apply BitVec.eq_of_getLsbD_eq
  intro i hi
  simp only [busWord, BitVec.getLsbD_append, BitVec.getLsbD_extractLsb', BitVec.getLsbD_ofBool]
  split
  case isTrue hlow => simp [hlow]
  case isFalse hlow =>
    split
    case isTrue hmid => simp [hmid, show 32 + (i - 32) = i by omega]
    case isFalse hmid => simp [show i = 40 by omega]

theorem srcWord_of_kind {b : BitVec 10} {kind : BitVec 2} (hkind : (b.extractLsb' 8 2).toNat = kind.toNat) :
    srcWord kind (b.extractLsb' 0 8) = b := by
  obtain rfl := BitVec.eq_of_toNat_eq hkind
  apply BitVec.eq_of_getLsbD_eq
  intro i hi
  simp only [srcWord, BitVec.getLsbD_append, BitVec.getLsbD_extractLsb']
  split
  case isTrue hlow => simp [hlow]
  case isFalse hlow => simp [show i - 8 < 2 by omega, show 8 + (i - 8) = i by omega]

/-! ## The command words (R65) -/

theorem decodeCmd_eq_some_iff {v : Word} {i : Instr} :
    decodeCmd v = some i ↔
      i = .startEncode ∧ v = 1#32 ∨ i = .startDecode ∧ v = 2#32 ∨ i = .clear ∧ v = 3#32 := by
  unfold decodeCmd
  split_ifs with h1 h2 h3
  · simp [h1, eq_comm]
  · simp [h2, eq_comm]
  · simp [h3, eq_comm]
  · simp [h1, h2, h3]

/-- A command is a BUS write of its word to offset 0 (R76). -/
theorem encode_of_decodeCmd {v : Word} {i : Instr} (h : decodeCmd v = some i) :
    i.wellFormed = true ∧ encode i = .bus (busWord true 0x00#8 v) := by
  obtain ⟨rfl, rfl⟩ | ⟨rfl, rfl⟩ | ⟨rfl, rfl⟩ := decodeCmd_eq_some_iff.mp h <;> exact ⟨rfl, rfl⟩

/-- A register write is the name of its word unless it writes a command (log entry 12). -/
theorem wellFormed_regWrite_iff {r : Reg} {v : Word} :
    (Instr.regWrite r v).wellFormed = true ↔ (r = .cmd → decodeCmd v = none) := by
  by_cases hr : r = .cmd
  · subst hr
    simp [Instr.wellFormed, isCommandWord, decodeCmd_eq_none, and_assoc]
  · simp [Instr.wellFormed, hr]

/-! ## The register window (R70) -/

@[simp] theorem regAt_offset (r : Reg) : regAt r.offset = .ok r := by
  cases r <;> rfl

/-- Each of the sixteen registers stands at a multiple of 4; R70's test is left for the other offsets. -/
theorem regAt_misaligned_iff {off : BitVec 8} : regAt off = .error .busMisaligned ↔ off.toNat % 4 ≠ 0 := by
  unfold regAt
  split
  case h_17 => split <;> simp [*]
  all_goals simp [*]

/-- An aligned offset that is none of the sixteen registers' is 0x40 or more. -/
theorem regAt_outOfWindow_iff {off : BitVec 8} :
    regAt off = .error .busOutOfWindow ↔ off.toNat % 4 = 0 ∧ 0x40 ≤ off.toNat := by
  unfold regAt
  split
  case h_17 =>
    split
    case isTrue haligned => grind
    case isFalse haligned => simp [haligned]
  all_goals simp [*]

/-! ## A BUS word, case by case (R67) -/

section
variable {b : BitVec 41} {r : Reg}

theorem decodeBus_read (hoff : regAt (b.extractLsb' 32 8) = .ok r) (hwe : b.getLsbD 40 = false) :
    decodeBus b = .ok (.regRead r (b.extractLsb' 0 32)) := by
  simp only [decodeBus, hoff, hwe]
  rfl

theorem decodeBus_command {i : Instr} (hoff : regAt (b.extractLsb' 32 8) = .ok .cmd) (hwe : b.getLsbD 40 = true)
    (hcmd : decodeCmd (b.extractLsb' 0 32) = some i) : decodeBus b = .ok i := by
  simp only [decodeBus, hoff, hwe, hcmd]
  rfl

theorem decodeBus_write (hoff : regAt (b.extractLsb' 32 8) = .ok r) (hwe : b.getLsbD 40 = true)
    (hcmd : r = .cmd → decodeCmd (b.extractLsb' 0 32) = none) :
    decodeBus b = .ok (.regWrite r (b.extractLsb' 0 32)) := by
  simp only [decodeBus, hoff, hwe, if_true]
  split
  next i hi => exact absurd (hi.symm.trans (hcmd rfl)) (by simp)
  · rfl

/-- A BUS word is refused for its offset only. -/
theorem decodeBus_error_iff {e : WordError} : decodeBus b = .error e ↔ regAt (b.extractLsb' 32 8) = .error e := by
  unfold decodeBus
  dsimp only
  split
  next e' he => rw [he]; simp
  next r hr =>
    rw [hr]
    split
    · split <;> simp
    · simp

end

/-! ## The reserved words of the other ports (R69, R72) -/

theorem decodeSrc_reserved_iff {b : BitVec 10} :
    decodeSrc b = .error .srcKindReserved ↔ b.extractLsb' 8 2 = 0b11#2 := by
  rw [← BitVec.toNat_inj]
  unfold decodeSrc
  dsimp only
  have := (b.extractLsb' 8 2).isLt
  split
  case h_4 => grind
  all_goals simp [*]

theorem decodeSnk_reserved_iff {b : BitVec 2} :
    decodeSnk b = .error .snkRespReserved ↔ b = 0b00#2 ∨ b = 0b11#2 := by
  revert b
  decide

theorem decodeGop_reserved_iff {sel : BitVec 3} {operand : BitVec 32} :
    decodeGop sel operand = .error .gopReserved ↔ sel = 0b011#3 ∨ sel = 0b111#3 := by
  rw [← BitVec.toNat_inj, ← BitVec.toNat_inj]
  unfold decodeGop
  have := sel.isLt
  split
  case h_7 => grind
  all_goals simp [*]

/-! ## A word of each port is decoded to the instruction it is the word of -/

theorem encode_of_decodeBus {b : BitVec 41} {i : Instr} (h : decodeBus b = .ok i) :
    i.wellFormed = true ∧ encode i = .bus b := by
  cases hoff : regAt (b.extractLsb' 32 8) with
  | error e => cases h.symm.trans (decodeBus_error_iff.mpr hoff)
  | ok r =>
    have hfields (we : Bool) (hwe : b.getLsbD 40 = we) := busWord_of_fields hwe (regAt_ok hoff) rfl
    cases hwe : b.getLsbD 40 with
    | false =>
      cases h.symm.trans (decodeBus_read hoff hwe)
      exact ⟨rfl, congrArg PortWord.bus (hfields _ hwe)⟩
    | true =>
      by_cases hcmd : r = .cmd → decodeCmd (b.extractLsb' 0 32) = none
      · cases h.symm.trans (decodeBus_write hoff hwe hcmd)
        exact ⟨wellFormed_regWrite_iff.mpr hcmd, congrArg PortWord.bus (hfields _ hwe)⟩
      · obtain ⟨rfl, hsome⟩ := Classical.not_imp.mp hcmd
        obtain ⟨j, hj⟩ := Option.ne_none_iff_exists'.mp hsome
        cases h.symm.trans (decodeBus_command hoff hwe hj)
        rw [← hfields _ hwe]
        exact encode_of_decodeCmd hj

theorem encode_of_decodeSrc {b : BitVec 10} {i : Instr} (h : decodeSrc b = .ok i) :
    i.wellFormed = true ∧ encode i = .src b := by
  unfold decodeSrc at h
  dsimp only at h
  split at h
  case h_4 => cases h
  all_goals
    cases h
    exact ⟨rfl, congrArg PortWord.src (srcWord_of_kind ‹_›)⟩

theorem encode_of_decodeSnk {b : BitVec 2} {i : Instr} (h : decodeSnk b = .ok i) :
    i.wellFormed = true ∧ encode i = .snk b := by
  unfold decodeSnk at h
  split at h
  case h_3 => cases h
  all_goals
    cases h
    exact ⟨rfl, congrArg PortWord.snk (BitVec.eq_of_toNat_eq (Eq.symm ‹_›))⟩

/-- An encode operand is the line's low 24 bits (R71, log entry 8). -/
theorem encode_of_decodeGop {sel : BitVec 3} {operand : BitVec 32} {i : Instr} (h : decodeGop sel operand = .ok i) :
    i.wellFormed = true ∧
      if sel.getLsbD 2 then encode i = .gop sel operand
      else encode i = .gop sel ((operand.setWidth 24).setWidth 32) := by
  unfold decodeGop at h
  split at h
  case h_7 => cases h
  all_goals
    cases h
    obtain ⟨-, rfl⟩ := BitVec.toNat_eq_nat.mp ‹sel.toNat = _›
    simp [encode, Instr.wellFormed, BitVec.setWidth_eq_extractLsb']

end Sys2Proof.Machine
end

section
/-! PROOFS. The obligations on the encoding: the command words, the reserved words, and decoding against encoding
(spec 30_encoding.md R63 to R76). -/

namespace Sys2Proof.Machine

/-! ## Each port decodes the words of its instructions -/

theorem decode_busWord_read (r : Reg) (v : Word) :
    decode (.bus (busWord false r.offset v)) = .ok (.regRead r v) := by
  obtain ⟨hwe, hoff, hv⟩ := Laws.RowBits.busWord_fields false r.offset v
  rw [decode, decodeBus_read (by rw [hoff, regAt_offset]) hwe, hv]

theorem decode_busWord_write {r : Reg} {v : Word} (hcmd : r = .cmd → decodeCmd v = none) :
    decode (.bus (busWord true r.offset v)) = .ok (.regWrite r v) := by
  obtain ⟨hwe, hoff, hv⟩ := Laws.RowBits.busWord_fields true r.offset v
  rw [decode, decodeBus_write (by rw [hoff, regAt_offset]) hwe (by rwa [hv]), hv]

theorem decode_busWord_command {v : Word} {i : Instr} (hcmd : decodeCmd v = some i) :
    decode (.bus (busWord true 0x00#8 v)) = .ok i := by
  obtain ⟨hwe, hoff, hv⟩ := Laws.RowBits.busWord_fields true 0x00#8 v
  rw [decode, decodeBus_command (by rw [hoff]; rfl) hwe (by rwa [hv])]

theorem extractLsb'_setWidth_operand (o : BitVec 24) : (o.setWidth 32).extractLsb' 0 24 = o := by
  rw [← BitVec.setWidth_eq_extractLsb' (by omega), BitVec.setWidth_setWidth_of_le _ (by omega), BitVec.setWidth_eq]

/-! ## The obligations -/

/-- Settles O3: each port's decoder is evaluated on the word that the encoder makes for it. -/
theorem decodeOfEncode : Obligations.DecodeOfEncode := by
  intro i hwf
  cases i with
  | startEncode | startDecode | clear => exact decode_busWord_command rfl
  | regRead r v => exact decode_busWord_read r v
  | regWrite r v => exact decode_busWord_write (wellFormed_regWrite_iff.mp hwf)
  | srcData d | srcEof d | srcErr d =>
    simp only [encode, decode, decodeSrc, Laws.RowBits.srcWord_fields]
    rfl
  | snkAck | snkErr => rfl
  | enc3 o | enc2 o | enc1 o =>
    simp only [encode, decode, decodeGop, extractLsb'_setWidth_operand]
    rfl
  | dec0 o | dec1 o | dec2 o => rfl

/-- Settles O4, port by port. -/
theorem encodeOfDecode : Obligations.EncodeOfDecode := by
  intro p i h
  cases p with
  | bus b => exact encode_of_decodeBus h
  | src b => exact encode_of_decodeSrc h
  | snk b => exact encode_of_decodeSnk h
  | gop sel operand => exact encode_of_decodeGop h

/-- Settles O2: each answer of `decodeCmd` has its own word, no answer the words beside the three. -/
theorem commandIffExactWord : Obligations.CommandIffExactWord := by
  intro w
  exact ⟨by simp [decodeCmd_eq_some_iff], by simp [decodeCmd_eq_some_iff], by simp [decodeCmd_eq_some_iff],
    decodeCmd_eq_none⟩

/-- Settles O5: a BUS word is refused for its offset, the words of the other ports for their code. -/
theorem reservedWordsRefused : Obligations.ReservedWordsRefused := by
  refine ⟨fun w => ⟨?misaligned, ?outOfWindow⟩, ?src, ?snk, ?gop⟩
  case misaligned => exact decodeBus_error_iff.trans regAt_misaligned_iff
  case outOfWindow => exact decodeBus_error_iff.trans regAt_outOfWindow_iff
  case src => exact fun _ => decodeSrc_reserved_iff
  case snk => exact fun _ => decodeSnk_reserved_iff
  case gop => exact fun _ _ => decodeGop_reserved_iff

end Sys2Proof.Machine
end

section
/-! PROOFS. The obligations on an agent that has no enabled step, on words that are refused, and on beats and responses
outside their state (30_encoding.md R68, R69; 43_stream_adapter.md R122). -/

namespace Sys2Proof.Machine

/-- Where the fetch hands a port's word to the decoder and the word is no transaction, the step is refused. -/
theorem step_of_fetch_runWord_error {s t : State} {w : PortWord} {e : WordError} (hf : fetch s = runWord w t)
    (hd : decode w = .error e) : step s = .refused (.badWord e) := by
  simp only [step, hf, runWord, hd]

/-- Settles O8: on each port the fetch hands the head word to the decoder, and the step answers its refusal. -/
theorem reservedWordStopsStep : Obligations.ReservedWordStopsStep := by
  refine ⟨?host, ?source, ?sink, ?groupSelect⟩
  case host =>
    intro s w e ha hq hd
    obtain ⟨ws, hq⟩ := List.head?_eq_some_iff.mp hq
    exact step_of_fetch_runWord_error (fetch_host ha hq) hd
  case source =>
    intro s w e ha hfill hq hd
    obtain ⟨ws, hq⟩ := List.head?_eq_some_iff.mp hq
    exact step_of_fetch_runWord_error (fetch_source ha hfill hq) hd
  case sink =>
    intro s w e ha hq hd
    obtain ⟨ws, hq⟩ := List.head?_eq_some_iff.mp hq
    exact step_of_fetch_runWord_error (fetch_sink ha hq) hd
  case groupSelect =>
    intro s g e ha hq hd
    obtain ⟨ws, hq⟩ := List.head?_eq_some_iff.mp hq
    exact step_of_fetch_runWord_error (fetch_groupSelect ha hq) hd

/-- The source's port is closed outside FILL, whatever is on offer (30_encoding.md R68). -/
theorem fetch_source_closed {s : State} (ha : nextAgent s = .source) (hfill : s.state ≠ .fill) :
    fetch s = .wait (dropTurn s) := by
  cases hq : s.env.srcQ with
  | nil => simp [fetch, ha, hq]
  | cons w ws => simp [fetch, ha, hq, hfill]

/-- Settles O7: in each of the six cases the fetch waits. -/
theorem disabledAgentWaits : Obligations.DisabledAgentWaits := by
  intro s h
  refine step_of_fetch_wait (u := dropTurn s) ?_
  rcases h with ⟨ha, hfill⟩ | ⟨ha, hproc⟩ | ⟨ha, hq⟩ | ⟨ha, hq⟩ | ⟨ha, hq⟩ | ⟨ha, hq⟩
  · exact fetch_source_closed ha hfill
  · simp [fetch, ha, hproc]
  all_goals simp [fetch, ha, hq]

/-- Settles O23: outside FILL the meaning of a beat is `keepPending`. -/
theorem beatOutsideFillStaysPending : Obligations.BeatOutsideFillStaysPending :=
  fun _ _ hfill => ⟨if_neg hfill, if_neg hfill, if_neg hfill⟩

/-- Settles O26: both responses look at STATE before anything else. -/
theorem sinkOutsideDrainRefused : Obligations.SinkOutsideDrainRefused :=
  fun _ hdrain => ⟨if_neg hdrain, if_neg hdrain⟩

end Sys2Proof.Machine
end

section
/-! PROOFS. The lookup ROMs: what the alphabet holds (40_lookup_tables.md R79, R80), and what the reverse of a forward
ROM gives for a character in it and for any other (R83, R84). -/

namespace Sys2Proof.Machine

/-! ## Positions in a list -/

/-- The search counts from `i` to the first place of `c`, and fails where `c` does not stand in the list. -/
theorem indexFrom_eq (c : Octet) (i : Nat) (l : List Octet) :
    indexFrom c i l = if c ∈ l then some (i + l.idxOf c) else none := by
  induction l generalizing i with
  | nil => rfl
  | cons x xs ih =>
    by_cases hx : x = c
    · simp [indexFrom, hx]
    · simp [indexFrom, hx, ih, Ne.symm hx, List.idxOf_cons_ne, Nat.add_assoc, Nat.add_comm 1]

/-! ## A forward ROM -/

theorem toList_getElem_eq_fwdAt (fwd : FwdRom) {i : Nat} (hi : i < fwd.toList.length) :
    fwd.toList[i] = fwdAt fwd (BitVec.ofNat 6 i) := by
  have h64 : i < 64 := by simpa using hi
  simp [fwdAt, Nat.mod_eq_of_lt h64]

theorem mem_toList_iff_fwdAt (fwd : FwdRom) (c : Octet) : c ∈ fwd.toList ↔ ∃ a : Sextet, fwdAt fwd a = c := by
  constructor
  · intro hc
    obtain ⟨i, hi, rfl⟩ := List.getElem_of_mem hc
    exact ⟨_, (toList_getElem_eq_fwdAt fwd hi).symm⟩
  · rintro ⟨a, rfl⟩
    simp [fwdAt]

/-- In a forward ROM without repeated characters (R80) the first place of a character is its sextet. -/
theorem idxOf_fwdAt {fwd : FwdRom} (hinj : Function.Injective (fwdAt fwd)) (a : Sextet) :
    fwd.toList.idxOf (fwdAt fwd a) = a.toNat := by
  have hmem : fwdAt fwd a ∈ fwd.toList := (mem_toList_iff_fwdAt fwd _).mpr ⟨a, rfl⟩
  have hlt := List.idxOf_lt_length_of_mem hmem
  have hsame : fwdAt fwd (BitVec.ofNat 6 (fwd.toList.idxOf (fwdAt fwd a))) = fwdAt fwd a := by
    rw [← toList_getElem_eq_fwdAt fwd hlt, List.getElem_idxOf hlt]
  have h64 : fwd.toList.idxOf (fwdAt fwd a) < 64 := by simpa using hlt
  simpa [Nat.mod_eq_of_lt h64] using congrArg BitVec.toNat (hinj hsame)

/-! ## The reverse of a forward ROM -/

@[simp] theorem revAt_revOf (fwd : FwdRom) (c : Octet) : revAt (revOf fwd) c = revEntry fwd c := by
  simp [revAt, revOf]

theorem revEntry_fwdAt {fwd : FwdRom} (hinj : Function.Injective (fwdAt fwd)) (a : Sextet) :
    revEntry fwd (fwdAt fwd a) = a.setWidth 8 := by
  have hmem : fwdAt fwd a ∈ fwd.toList := (mem_toList_iff_fwdAt fwd _).mpr ⟨a, rfl⟩
  simp [revEntry, indexFrom_eq, hmem, idxOf_fwdAt hinj]

theorem revEntry_of_absent {fwd : FwdRom} {c : Octet} (h : ∀ a : Sextet, fwdAt fwd a ≠ c) :
    revEntry fwd c = if c = padChar then revPad else revInv := by
  have hmem : c ∉ fwd.toList := fun hc => by
    obtain ⟨a, ha⟩ := (mem_toList_iff_fwdAt fwd c).mp hc
    exact h a ha
  simp [revEntry, indexFrom_eq, hmem]

/-! ## The alphabet -/

@[simp] theorem fwdAt_alphabet (a : Sextet) : fwdAt alphabet a = alphabetChar a.toNat := by
  simp [fwdAt, alphabet]

/-- The five ranges of R79 as numbers. -/
theorem alphabet_toNat_cases (a : Sextet) :
    (a.toNat ≤ 25 ∧ (fwdAt alphabet a).toNat = 0x41 + a.toNat) ∨
    (25 < a.toNat ∧ a.toNat ≤ 51 ∧ (fwdAt alphabet a).toNat = 0x61 + (a.toNat - 26)) ∨
    (51 < a.toNat ∧ a.toNat ≤ 61 ∧ (fwdAt alphabet a).toNat = 0x30 + (a.toNat - 52)) ∨
    (a.toNat = 62 ∧ (fwdAt alphabet a).toNat = 0x2B) ∨ (a.toNat = 63 ∧ (fwdAt alphabet a).toNat = 0x2F) := by
  have hlt := a.isLt
  rw [fwdAt_alphabet, alphabetChar]
  split_ifs <;> simp <;> omega

/-- R80: no octet belongs to two ranges of R79. -/
theorem fwdAt_alphabet_injective : Function.Injective (fwdAt alphabet) := by
  intro a b hab
  have hnum := congrArg BitVec.toNat hab
  have ha := alphabet_toNat_cases a
  have hb := alphabet_toNat_cases b
  apply BitVec.eq_of_toNat_eq
  omega

/-- R80: every range of R79 is printable and leaves out `=`, LF and `-`. -/
theorem fwdAt_alphabet_printable (a : Sextet) :
    0x21 ≤ (fwdAt alphabet a).toNat ∧ (fwdAt alphabet a).toNat ≤ 0x7E ∧ fwdAt alphabet a ≠ 0x3D#8 ∧
      fwdAt alphabet a ≠ 0x0A#8 ∧ fwdAt alphabet a ≠ 0x2D#8 := by
  have ha := alphabet_toNat_cases a
  simp only [ne_eq, ← BitVec.toNat_inj, BitVec.reduceToNat]
  omega

/-- Settles O34: the contents are the closed form, which is injective and stays among the printable octets. -/
theorem alphabetIsBijective : Obligations.AlphabetIsBijective :=
  ⟨fwdAt_alphabet, fun _ _ hab => fwdAt_alphabet_injective hab, fwdAt_alphabet_printable⟩

/-- Settles O35: the three cases of R84, with the alphabet injective and without the padding character. -/
theorem reverseAlphabetDerived : Obligations.ReverseAlphabetDerived := by
  refine ⟨fun a => ?character, ?padding, fun c habsent hpad => ?other⟩
  case character => exact (revAt_revOf _ _).trans (revEntry_fwdAt fwdAt_alphabet_injective a)
  case padding =>
    have habsent : ∀ a : Sextet, fwdAt alphabet a ≠ 0x3D#8 := fun a => by
      obtain ⟨-, -, hpad, -⟩ := fwdAt_alphabet_printable a
      exact hpad
    exact (revAt_revOf _ _).trans (revEntry_of_absent habsent)
  case other =>
    have hinv : revEntry alphabet c = revInv := (revEntry_of_absent habsent).trans (if_neg hpad)
    exact (revAt_revOf _ _).trans hinv

end Sys2Proof.Machine
end

section
/-! PROOFS. The group operations on an operand word that carries its octets or characters in stream order (spec
30_encoding.md R73, R74): what exec answers for each (41_encoder.md R89 to R91, 42_decoder.md R106 to R108). -/

namespace Sys2Proof.Machine

/-! ## Octets of an operand word -/

section
variable {n : Nat} (w : BitVec n) (o : Octet)

theorem octetAt_append_zero : octetAt (w ++ o) 0 = o := BitVec.extractLsb'_append_eq_right

theorem octetAt_append_add (lo : Nat) : octetAt (w ++ o) (lo + 8) = octetAt w lo :=
  BitVec.extractLsb'_append_eq_of_le (Nat.le_add_left 8 lo)

end

@[simp] theorem octetAt_encodeOperand (o0 o1 o2 : Octet) :
    octetAt (encodeOperand o0 o1 o2) 16 = o0 ∧ octetAt (encodeOperand o0 o1 o2) 8 = o1 ∧
      octetAt (encodeOperand o0 o1 o2) 0 = o2 := by
  have upper (lo : Nat) : octetAt (encodeOperand o0 o1 o2) (lo + 8) = octetAt (o0 ++ o1) lo := octetAt_append_add ..
  have first : octetAt (o0 ++ o1) 8 = o0 := BitVec.extractLsb'_append_eq_left
  exact ⟨(upper 8).trans first, (upper 0).trans (octetAt_append_zero ..), octetAt_append_zero ..⟩

@[simp] theorem octetAt_decodeOperand (c0 c1 c2 c3 : Octet) :
    octetAt (decodeOperand c0 c1 c2 c3) 24 = c0 ∧ octetAt (decodeOperand c0 c1 c2 c3) 16 = c1 ∧
      octetAt (decodeOperand c0 c1 c2 c3) 8 = c2 ∧ octetAt (decodeOperand c0 c1 c2 c3) 0 = c3 := by
  have upper (lo : Nat) : octetAt (decodeOperand c0 c1 c2 c3) (lo + 8) = octetAt (encodeOperand c0 c1 c2) lo :=
    octetAt_append_add ..
  obtain ⟨h0, h1, h2⟩ := octetAt_encodeOperand c0 c1 c2
  exact ⟨(upper 16).trans h0, (upper 8).trans h1, (upper 0).trans h2, octetAt_append_zero ..⟩

/-! ## Encode groups -/

section
variable (s : State) (o0 o1 o2 : Octet)

@[simp] theorem exec_enc3 :
    exec (.enc3 (encodeOperand o0 o1 o2)) s = .next (answerGroup (encodeGroup3 s.fwd o0 o1 o2) s) := by
  simp [exec, execEnc3]

@[simp] theorem exec_enc2 :
    exec (.enc2 (encodeOperand o0 o1 o2)) s = .next (answerGroup (encodeGroup2 s.fwd o0 o1) s) := by
  simp [exec, execEnc2]

@[simp] theorem exec_enc1 :
    exec (.enc1 (encodeOperand o0 o1 o2)) s = .next (answerGroup (encodeGroup1 s.fwd o0) s) := by
  simp [exec, execEnc1]

end

/-- Settles O30: an operand word of three octets is `encodeOperand` of them. -/
theorem encodeGroupOperations : Obligations.EncodeGroupOperations :=
  fun s o0 o1 o2 => ⟨exec_enc3 s o0 o1 o2, exec_enc2 s o0 o1 o2, exec_enc1 s o0 o1 o2⟩

/-! ## Decode groups, where each character looked up has a sextet -/

section
variable {s : State} {c0 c1 c2 c3 : Octet}

theorem sextetOr_of_isSextet {rev : RevRom} {c : Octet} (h : isSextet rev c = true) (free : Sextet) :
    sextetOr rev free c = sextetOf rev c := if_pos h

theorem exec_dec0 (h0 : isSextet s.rev c0 = true) (h1 : isSextet s.rev c1 = true) (h2 : isSextet s.rev c2 = true)
    (h3 : isSextet s.rev c3 = true) :
    exec (.dec0 (decodeOperand c0 c1 c2 c3)) s = .next (answerDecode (decodeLast s.rev 0 c0 c1 c2 c3) s) := by
  simp [exec, execDec0, operandSextet, decodeLast, sextetOr_of_isSextet, h0, h1, h2, h3]

theorem exec_dec1 (h0 : isSextet s.rev c0 = true) (h1 : isSextet s.rev c1 = true) (h2 : isSextet s.rev c2 = true) :
    exec (.dec1 (decodeOperand c0 c1 c2 c3)) s = .next (answerDecode (decodeLast s.rev 1 c0 c1 c2 c3) s) := by
  simp [exec, execDec1, operandSextet, decodeLast, sextetOr_of_isSextet, h0, h1, h2]

theorem exec_dec2 (h0 : isSextet s.rev c0 = true) (h1 : isSextet s.rev c1 = true) :
    exec (.dec2 (decodeOperand c0 c1 c2 c3)) s = .next (answerDecode (decodeLast s.rev 2 c0 c1 c2 c3) s) := by
  simp [exec, execDec2, operandSextet, decodeLast, sextetOr_of_isSextet, h0, h1]

end

end Sys2Proof.Machine
end

section
/-! PROOFS. EncodeChunk as one function of its chunk: its length and its law of concatenation (41_encoder.md R95,
R98). -/

namespace Sys2Proof.Machine

/-- Settles O37: both forms of the length are one number, and the capacity is a whole number of groups. -/
theorem encodeChunkLength : Obligations.EncodeChunkLength := by
  intro fwd b
  rw [encodeChunk_length]
  refine ⟨rfl, ?groups, fun p hfit => ?fits⟩
  case groups => split_ifs <;> omega
  case fits => exact encode_fits hfit (Nat.div_mul_le_self _ _) (Nat.mul_mod_left _ _)

/-- A chunk of whole groups leaves no short group, so that what follows it starts a group of its own. -/
theorem encodeChunk_append (fwd : FwdRom) {a : List Octet} (b : List Octet) (h : a.length % 3 = 0) :
    encodeChunk fwd (a ++ b) = encodeChunk fwd a ++ encodeChunk fwd b := by
  induction a using encodeChunk.induct with
  | case1 o0 o1 o2 rest ih =>
    have hrest : rest.length % 3 = 0 := (Nat.add_mod_right _ 3).symm.trans h
    simp [encodeChunk, ih hrest]
  | case2 o0 o1 => simp at h
  | case3 o0 => simp at h
  | case4 => rfl

/-- Settles O38, by induction on the groups of the first part. -/
theorem encodeChunkConcatenation : Obligations.EncodeChunkConcatenation := fun fwd _ b h => encodeChunk_append fwd b h

end Sys2Proof.Machine
end

section
/-! PROOFS. A chunk's output is what its group operations answer, in order (43_stream_adapter.md R126, R127;
41_encoder.md R94, 42_decoder.md R110, R111). -/

namespace Sys2Proof.Machine

theorem gopResult_of_exec {s t : State} {i : Instr} (h : exec i s = .next t) : gopResult s i = t.env.gopOut := by
  simp [gopResult, h]

/-! ## Encode -/

theorem flatMap_gopResult_encodeGops (s : State) (b : List Octet) :
    (encodeGops b).flatMap (gopResult s) = encodeChunk s.fwd b := by
  induction b using encodeChunk.induct with
  | case1 o0 o1 o2 rest ih =>
    rw [encodeGops, List.flatMap_cons, gopResult_of_exec (exec_enc3 ..), ih, answerGroup_env_gopOut, encodeChunk]
  | case2 o0 o1 => simp [encodeGops, encodeChunk, gopResult_of_exec (exec_enc2 ..)]
  | case3 o0 => simp [encodeGops, encodeChunk, gopResult_of_exec (exec_enc1 ..)]
  | case4 => rfl

/-! ## What a text that decodes has passed (R101, R104) -/

theorem padCount_le_two (t : List Octet) : padCount t ≤ 2 := by
  unfold padCount
  split_ifs <;> simp

theorem firstIllegal_eq_none_iff {rev : RevRom} {i : Nat} {t : List Octet} :
    firstIllegal rev i t = none ↔ ∀ c ∈ t, isSextet rev c = true := by
  induction t generalizing i with
  | nil => simp [firstIllegal]
  | cons c cs ih => by_cases hc : isSextet rev c = true <;> simp [firstIllegal, hc, ih]

/-- A text that decodes is whole groups, and every character before its padding has a sextet. -/
theorem decodeChunk_ok_valid {rev : RevRom} {t0 t out : List Octet} (ht : t = stripNewline t0)
    (h : decodeChunk rev t0 = .ok out) :
    t.length % 4 = 0 ∧ ∀ c ∈ t.take (t.length - padCount t), isSextet rev c = true := by
  unfold decodeChunk at h
  dsimp only at h
  rw [← ht] at h
  split_ifs at h with hlen
  split at h
  next => cases h
  next hnone => exact ⟨not_not.mp hlen, firstIllegal_eq_none_iff.mp hnone⟩

/-! ## Decode -/

/-- The last group: DEC0, DEC1 or DEC2 by its padding (R110), each of which looks up the characters before it only. -/
theorem flatMap_gopResult_lastGop {s : State} {p : Nat} {c0 c1 c2 c3 : Octet} (hp : p ≤ 2)
    (h : ∀ c ∈ [c0, c1, c2, c3].take (4 - p), isSextet s.rev c = true) :
    (decodeGops p [c0, c1, c2, c3]).flatMap (gopResult s) = decodeLast s.rev p c0 c1 c2 c3 := by
  match p with
  | 0 =>
    obtain ⟨h0, h1, h2, h3⟩ : _ ∧ _ ∧ _ ∧ _ := by simpa using h
    simp [decodeGops, gopResult_of_exec (exec_dec0 h0 h1 h2 h3)]
  | 1 =>
    obtain ⟨h0, h1, h2⟩ : _ ∧ _ ∧ _ := by simpa using h
    simp [decodeGops, gopResult_of_exec (exec_dec1 h0 h1 h2)]
  | 2 =>
    obtain ⟨h0, h1⟩ : _ ∧ _ := by simpa using h
    simp [decodeGops, gopResult_of_exec (exec_dec2 h0 h1)]

theorem flatMap_gopResult_decodeGops {s : State} {p : Nat} {t : List Octet} (hp : p ≤ 2) (hlen : t.length % 4 = 0)
    (h : ∀ c ∈ t.take (t.length - p), isSextet s.rev c = true) :
    (decodeGops p t).flatMap (gopResult s) = decodeGroups s.rev p t := by
  induction t using decodeGroups.induct with
  | case1 c0 c1 c2 c3 => exact flatMap_gopResult_lastGop hp h
  | case2 c0 c1 c2 c3 c rest ih =>
    have hwhole : (c :: rest).length % 4 = 0 := (Nat.add_mod_right _ 4).symm.trans hlen
    have hsplit : (c0 :: c1 :: c2 :: c3 :: c :: rest).length - p = (c :: rest).length - p + 4 := by
      simp only [List.length_cons] at hwhole ⊢
      omega
    rw [hsplit] at h
    obtain ⟨h0, h1, h2, h3, hrest⟩ : _ ∧ _ ∧ _ ∧ _ ∧ _ := by
      simpa only [List.take_succ_cons, List.forall_mem_cons] using h
    rw [decodeGops, List.flatMap_cons, gopResult_of_exec (exec_dec0 h0 h1 h2 h3), ih hwhole hrest,
      answerDecode_env_gopOut, decodeGroups]
  | case3 => simp [decodeGops, decodeGroups]

/-- Settles O29: group by group, with the characters of an accepted text known to have sextets. -/
theorem chunkIsItsGroupOperations : Obligations.ChunkIsItsGroupOperations := by
  refine ⟨flatMap_gopResult_encodeGops, fun s t out h => ?_⟩
  obtain ⟨hlen, hlegal⟩ := decodeChunk_ok_valid rfl h
  rw [decodeChunk_ok h]
  exact flatMap_gopResult_decodeGops (padCount_le_two _) hlen hlegal

end Sys2Proof.Machine
end

section
/-! PROOFS. The end of a text: its trailing padding characters, counted and tested, and the newline concession
(42_decoder.md R99, R101, R102). -/

namespace Sys2Proof.Machine

/-- One more octet of a suffix is the octet before the suffix. -/
theorem cons_suffix_iff {x : Octet} {l t : List Octet} :
    x :: l <:+ t ↔ l <:+ t ∧ l.length + 1 ≤ t.length ∧ t[t.length - (l.length + 1)]? = some x := by
  have hlast (s : List Octet) : [x] <:+ s ↔ s.getLast? = some x :=
    (exists_congr fun _ => eq_comm).trans List.getLast?_eq_some_iff.symm
  have peel (s : List Octet) :
      x :: l <:+ s ++ l ↔ 1 ≤ s.length ∧ (s ++ l)[(s ++ l).length - (l.length + 1)]? = some x := by
    have hidx : (s ++ l).length - (l.length + 1) = s.length - 1 := by rw [List.length_append]; omega
    rw [hidx, ← List.singleton_append, List.suffix_append_self_iff, hlast, List.getLast?_eq_getElem?]
    cases s with
    | nil => simp
    | cons a s => rw [List.getElem?_append_left (by simp)]; simp
  constructor
  · intro h
    obtain ⟨s, rfl⟩ := (List.suffix_cons x l).trans h
    obtain ⟨hpos, hx⟩ := (peel s).mp h
    exact ⟨List.suffix_append s l, by rw [List.length_append]; omega, hx⟩
  · rintro ⟨⟨s, rfl⟩, hlen, hx⟩
    exact (peel s).mpr ⟨by rw [List.length_append] at hlen; omega, hx⟩

theorem singleton_suffix_iff {x : Octet} {t : List Octet} :
    [x] <:+ t ↔ 1 ≤ t.length ∧ t[t.length - 1]? = some x := by
  simp [cons_suffix_iff]

/-! ## Padding -/

/-- The padding count asks one octet after the other whether the text ends in one more `=`. -/
theorem padCount_eq (t : List Octet) :
    padCount t = if [padChar] <:+ t then if [padChar, padChar] <:+ t then 2 else 1 else 0 := by
  by_cases hone : [padChar] <:+ t
  · have htwo := cons_suffix_iff (x := padChar) (l := [padChar]) (t := t)
    simp only [hone, true_and] at htwo
    simp only [padCount, if_pos (singleton_suffix_iff.mp hone), htwo, if_pos hone]
    rfl
  · rw [padCount, if_neg (mt singleton_suffix_iff.mpr hone), if_neg hone]

theorem padCount_eq_two_iff {t : List Octet} : padCount t = 2 ↔ [padChar, padChar] <:+ t := by
  have hshort : [padChar, padChar] <:+ t → [padChar] <:+ t := (List.suffix_cons ..).trans
  rw [padCount_eq]
  split_ifs <;> simp_all

theorem padCount_eq_one_iff {t : List Octet} : padCount t = 1 ↔ [padChar] <:+ t ∧ ¬ [padChar, padChar] <:+ t := by
  rw [padCount_eq]
  split_ifs <;> simp_all

theorem padCount_eq_zero_iff {t : List Octet} : padCount t = 0 ↔ ¬ [padChar] <:+ t := by
  rw [padCount_eq]
  split_ifs <;> simp_all

theorem paddingTooLong_iff {t : List Octet} : paddingTooLong t = true ↔ [padChar, padChar, padChar] <:+ t := by
  simp [paddingTooLong, padCount_eq_two_iff, cons_suffix_iff (l := [padChar, padChar])]

theorem paddingTooLong_eq_false_iff {t : List Octet} :
    paddingTooLong t = false ↔ ¬ [padChar, padChar, padChar] <:+ t := by
  rw [← paddingTooLong_iff, Bool.not_eq_true]

/-- Settles O39: the count is 2, 1 or 0 as the text ends in two, one or no `=`. -/
theorem paddingCountScansTwo : Obligations.PaddingCountScansTwo :=
  fun _ => ⟨padCount_eq_two_iff, padCount_eq_one_iff, padCount_eq_zero_iff⟩

/-- A scan for `=` over a run of them stops at the octet before the run. -/
theorem replicate_suffix_append_iff {body : List Octet} (hbody : ¬ [padChar] <:+ body) (k p : Nat) :
    List.replicate k padChar <:+ body ++ List.replicate p padChar ↔ k ≤ p := by
  constructor
  · intro h
    by_contra hk
    obtain ⟨n, rfl⟩ : ∃ n, k = n + (1 + p) := ⟨k - (1 + p), by omega⟩
    rw [List.replicate_add] at h
    have hmore : [padChar] ++ List.replicate p padChar <:+ body ++ List.replicate p padChar := by
      have := (List.suffix_append ..).trans h
      rwa [List.replicate_add] at this
    exact hbody (List.suffix_append_self_iff.mp hmore)
  · intro hk
    obtain ⟨n, rfl⟩ := Nat.exists_eq_add_of_le' hk
    rw [List.replicate_add, ← List.append_assoc]
    exact List.suffix_append ..

/-- A text with at most two `=` after its last other character. -/
theorem padding_of_append_replicate {body : List Octet} {p : Nat} (hbody : ¬ [padChar] <:+ body) (hp : p ≤ 2) :
    padCount (body ++ List.replicate p padChar) = p ∧
      paddingTooLong (body ++ List.replicate p padChar) = false := by
  have hone : [padChar] <:+ body ++ List.replicate p padChar ↔ 1 ≤ p := replicate_suffix_append_iff hbody 1 p
  have htwo : [padChar, padChar] <:+ body ++ List.replicate p padChar ↔ 2 ≤ p :=
    replicate_suffix_append_iff hbody 2 p
  have hthree : [padChar, padChar, padChar] <:+ body ++ List.replicate p padChar ↔ 3 ≤ p :=
    replicate_suffix_append_iff hbody 3 p
  constructor
  · simp only [padCount_eq, hone, htwo]
    split_ifs <;> omega
  · rw [paddingTooLong_eq_false_iff, hthree]
    omega

/-! ## The newline concession -/

theorem stripNewline_concat_lineFeed {t : List Octet} (h : (t ++ [lineFeed]).length % 4 = 1) :
    stripNewline (t ++ [lineFeed]) = t := by
  rw [stripNewline, if_pos ⟨h, by simp⟩]
  simp

theorem stripNewline_of_not {t : List Octet} (h : t.length % 4 ≠ 1 ∨ ¬ [lineFeed] <:+ t) : stripNewline t = t := by
  refine if_neg fun ⟨hlen, hlast⟩ => ?_
  rcases h with hne | hne
  · exact hne hlen
  · exact hne (singleton_suffix_iff.mpr ⟨by omega, hlast⟩)

/-- Settles O40: the two cases of the concession. -/
theorem newlineConcession : Obligations.NewlineConcession :=
  fun _ => ⟨stripNewline_concat_lineFeed, stripNewline_of_not⟩

end Sys2Proof.Machine
end

section
/-! PROOFS. What DecodeChunk answers: an equation for each of its four outcomes, the length of what it gives, and the
texts that end in two LF (42_decoder.md R99 to R104, R111, R112, R116). -/

namespace Sys2Proof.Machine

variable {rev : RevRom} {t0 t : List Octet}

/-! ## The outcomes (R103, R111) -/

theorem decodeChunk_of_length_ne (ht : t = stripNewline t0) (hlen : t.length % 4 ≠ 0) :
    decodeChunk rev t0 = .error ⟨.invalidLength, 0#8, 0, t.length⟩ := by
  simp only [decodeChunk, ← ht]
  rw [if_pos hlen]

theorem decodeChunk_of_paddingTooLong (ht : t = stripNewline t0) (hlen : t.length % 4 = 0)
    (hpad : paddingTooLong t = true) : decodeChunk rev t0 = .error ⟨.paddingTooLong, 0#8, 0, t.length⟩ := by
  simp only [decodeChunk, ← ht]
  rw [if_neg (not_not.mpr hlen), if_pos hpad]

theorem decodeChunk_of_illegal (ht : t = stripNewline t0) (hlen : t.length % 4 = 0) (hpad : paddingTooLong t = false)
    {c : Octet} {i : Nat} (hill : firstIllegal rev 0 (t.take (t.length - padCount t)) = some (c, i)) :
    decodeChunk rev t0 = .error ⟨.illegalChar, c, i, t.length⟩ := by
  simp only [decodeChunk, ← ht, hpad, hill]
  rw [if_neg (not_not.mpr hlen)]
  rfl

theorem decodeChunk_of_valid (ht : t = stripNewline t0) (hlen : t.length % 4 = 0) (hpad : paddingTooLong t = false)
    (hlegal : ∀ c ∈ t.take (t.length - padCount t), isSextet rev c = true) :
    decodeChunk rev t0 = .ok (decodeGroups rev (padCount t) t) := by
  simp only [decodeChunk, ← ht, hpad, firstIllegal_eq_none_iff.mpr hlegal]
  rw [if_neg (not_not.mpr hlen)]
  rfl

/-! ## The lowest illegal character (R104) -/

theorem isSextet_iff {c : Octet} : isSextet rev c = true ↔ (revAt rev c).toNat ≤ 0x3F := by
  simp [isSextet]

theorem isSextet_eq_false_iff {c : Octet} : isSextet rev c = false ↔ 0x3F < (revAt rev c).toNat := by
  simp [isSextet]

/-- The search finds a character without a sextet where all before it have one. -/
theorem firstIllegal_eq_some {i k : Nat} {c : Octet} (hc : t[i]? = some c) (hill : isSextet rev c = false)
    (hbefore : ∀ j d, j < i → t[j]? = some d → isSextet rev d = true) :
    firstIllegal rev k t = some (c, k + i) := by
  induction t generalizing i k with
  | nil => simp at hc
  | cons d ds ih =>
    cases i with
    | zero =>
      obtain rfl : d = c := by simpa using hc
      simp [firstIllegal, hill]
    | succ i =>
      have hd : isSextet rev d = true := hbefore 0 d i.succ_pos rfl
      have hrest := ih (k := k + 1) hc fun j e hj he => hbefore (j + 1) e (Nat.succ_lt_succ hj) he
      simp [firstIllegal, hd, hrest, Nat.add_assoc, Nat.add_comm 1]

theorem mem_take_iff_getElem? {n : Nat} {c : Octet} : c ∈ t.take n ↔ ∃ i, i < n ∧ t[i]? = some c := by
  simp [List.mem_iff_getElem?, List.getElem?_take]

/-- Settles O41: one equation for each outcome, in the order of the checks. -/
theorem decodeChunkVerdict : Obligations.DecodeChunkVerdict := by
  intro rev t0 t ht
  refine ⟨decodeChunk_of_length_ne ht, fun hlen hpad => ?long, fun hlen hpad => ⟨?illegal, fun hlegal => ?valid⟩⟩
  case long => exact decodeChunk_of_paddingTooLong ht hlen (paddingTooLong_iff.mpr hpad)
  case illegal =>
    intro i c hi hc hill hbefore
    have htake (j : Nat) (hj : j ≤ i) : (t.take (t.length - padCount t))[j]? = t[j]? :=
      List.getElem?_take_of_lt (Nat.lt_of_le_of_lt hj hi)
    have hfound := firstIllegal_eq_some (k := 0) ((htake i i.le_refl).trans hc) (isSextet_eq_false_iff.mpr hill)
      fun j d hj hd => isSextet_iff.mpr (hbefore j d hj ((htake j hj.le).symm.trans hd))
    rw [Nat.zero_add] at hfound
    exact decodeChunk_of_illegal ht hlen (paddingTooLong_eq_false_iff.mpr hpad) hfound
  case valid =>
    refine ⟨_, decodeChunk_of_valid ht hlen (paddingTooLong_eq_false_iff.mpr hpad) fun c hc => ?_⟩
    obtain ⟨i, hi, hc⟩ := mem_take_iff_getElem?.mp hc
    exact isSextet_iff.mpr (hlegal i c hi hc)

/-! ## The length of the output (R112) -/

theorem decodeLast_length {p : Nat} (hp : p ≤ 2) (c0 c1 c2 c3 : Octet) :
    (decodeLast rev p c0 c1 c2 c3).length = 3 - p := by
  match p with
  | 0 => rfl
  | 1 => rfl
  | 2 => rfl

/-- Whole groups of which there is not even one. -/
theorem eq_nil_of_no_group (hlen : t.length % 4 = 0)
    (hnot : ∀ c0 c1 c2 c3 rest, t = c0 :: c1 :: c2 :: c3 :: rest → False) : t = [] := by
  match t with
  | [] => rfl
  | [_] | [_, _] | [_, _, _] => simp at hlen
  | c0 :: c1 :: c2 :: c3 :: rest => exact (hnot c0 c1 c2 c3 rest rfl).elim

/-- The padding shortens the last group only; an empty text has none. -/
theorem decodeGroups_length {p : Nat} (hp : p ≤ 2) (hlen : t.length % 4 = 0) :
    (decodeGroups rev p t).length = t.length / 4 * 3 - p := by
  induction t using decodeGroups.induct with
  | case1 c0 c1 c2 c3 => simpa [decodeGroups] using decodeLast_length hp c0 c1 c2 c3
  | case2 c0 c1 c2 c3 c rest ih =>
    have hwhole : (c :: rest).length % 4 = 0 := (Nat.add_mod_right _ 4).symm.trans hlen
    rw [decodeGroups, List.length_append, decodeLast_length (Nat.zero_le 2), ih hwhole]
    simp only [List.length_cons] at hwhole ⊢
    omega
  | case3 t hnot =>
    obtain rfl := eq_nil_of_no_group hlen hnot
    simp [decodeGroups]

/-- Settles O42: the length is the groups', and an output of three octets a group fits where its text does. -/
theorem decodeChunkLength : Obligations.DecodeChunkLength := by
  intro rev t out h
  refine ⟨?length, fun p _ hfit => (decodeChunk_length_le h).trans (decode_fits hfit)⟩
  case length =>
    obtain ⟨hlen, -⟩ := decodeChunk_ok_valid rfl h
    rw [decodeChunk_ok h, decodeGroups_length (padCount_le_two _) hlen]

/-! ## Texts that end in LF (R116) -/

/-- A text that decodes does not end in a character that is neither a sextet's nor padding. -/
theorem not_suffix_of_decodeChunk_ok {out : List Octet} {c : Octet} (h : decodeChunk rev t0 = .ok out)
    (hill : isSextet rev c = false) (hpad : c ≠ padChar) : ¬ [c] <:+ stripNewline t0 := by
  rintro ⟨s, hs⟩
  obtain ⟨-, hlegal⟩ := decodeChunk_ok_valid rfl h
  have hzero : padCount (stripNewline t0) = 0 := by
    rw [padCount_eq_zero_iff, ← hs, singleton_suffix_iff]
    simp [hpad]
  rw [hzero, Nat.sub_zero, List.take_length, ← hs] at hlegal
  exact Bool.false_ne_true (hill.symm.trans (hlegal c (by simp)))

theorem isSextet_lineFeed : isSextet reverseAlphabet lineFeed = false := by
  have habsent : ∀ a : Sextet, fwdAt alphabet a ≠ lineFeed := fun a => by
    obtain ⟨-, -, -, hline, -⟩ := fwdAt_alphabet_printable a
    exact hline
  rw [isSextet, reverseAlphabet, revAt_revOf, revEntry_of_absent habsent]
  rfl

/-- At most one of two LF is taken off. -/
theorem lineFeed_suffix_stripNewline (t : List Octet) : [lineFeed] <:+ stripNewline (t ++ [lineFeed, lineFeed]) := by
  rw [List.append_cons t lineFeed [lineFeed]]
  by_cases hlen : (t ++ [lineFeed] ++ [lineFeed]).length % 4 = 1
  · rw [stripNewline_concat_lineFeed hlen]
    exact List.suffix_append ..
  · rw [stripNewline_of_not (.inl hlen)]
    exact List.suffix_append ..

/-- Settles O43: the concession leaves an LF at the end, which no accepted text has. -/
theorem twoNewlinesFail : Obligations.TwoNewlinesFail := by
  intro t
  cases h : decodeChunk reverseAlphabet (t ++ [lineFeed, lineFeed]) with
  | error e => exact ⟨e, h⟩
  | ok out =>
    exact absurd (lineFeed_suffix_stripNewline t) (not_suffix_of_decodeChunk_ok h isSextet_lineFeed (by decide))

end Sys2Proof.Machine
end

section
/-! PROOFS. The decode groups: which bits of the sextets each octet holds (42_decoder.md R106 to R109), and what the
exposed group operations answer for characters with sextets and for any others. -/

namespace Sys2Proof.Machine

/-! ## The octets of four sextets -/

section
variable (v0 v1 v2 v3 : Sextet)

theorem octetAt_sextets4_first : octetAt (sextets4 v0 v1 v2 v3) 16 = v0 ++ v1.extractLsb' 4 2 := by
  apply BitVec.eq_of_getLsbD_eq
  intro i hi
  simp only [octetAt, sextets4, BitVec.getLsbD_extractLsb', BitVec.getLsbD_append]
  grind

theorem octetAt_sextets4_second : octetAt (sextets4 v0 v1 v2 v3) 8 = v1.extractLsb' 0 4 ++ v2.extractLsb' 2 4 := by
  apply BitVec.eq_of_getLsbD_eq
  intro i hi
  simp only [octetAt, sextets4, BitVec.getLsbD_extractLsb', BitVec.getLsbD_append]
  grind

end

/-- Settles O33: the octets of a padded group read only the upper bits of its last sextet. -/
theorem trailingBitsDiscarded : Obligations.TrailingBitsDiscarded := by
  refine ⟨fun v0 v1 v2 v2' h => ?dec1, fun v0 v1 v1' h => ?dec2, ?text⟩
  case dec1 => simp only [decodeGroup1, octetAt_sextets4_first, octetAt_sextets4_second, h]
  case dec2 => simp only [decodeGroup2, octetAt_sextets4_first, h]
  case text => decide

/-! ## Characters with sextets -/

theorem sextet_of_revAt {rev : RevRom} {c : Octet} {v : Sextet} (h : revAt rev c = v.setWidth 8) :
    isSextet rev c = true ∧ sextetOf rev c = v := by
  constructor
  · have hv : v.toNat < 2 ^ 6 := v.isLt
    rw [isSextet_iff, h, BitVec.toNat_setWidth]
    omega
  · rw [sextetOf, h, BitVec.setWidth_setWidth_of_le _ (by decide), BitVec.setWidth_eq]

/-- Settles O31: the characters looked up have the sextets `v0 ..`, and the accumulator of R74 is `sextets4` of them. -/
theorem decodeGroupOperations : Obligations.DecodeGroupOperations := by
  intro s c0 c1 c2 c3 v0 v1 v2 v3 h0 h1
  obtain ⟨hs0, rfl⟩ := sextet_of_revAt h0
  obtain ⟨hs1, rfl⟩ := sextet_of_revAt h1
  refine ⟨exec_dec2 hs0 hs1, fun h2 => ?_⟩
  obtain ⟨hs2, rfl⟩ := sextet_of_revAt h2
  refine ⟨exec_dec1 hs0 hs1 hs2, fun h3 => ?_⟩
  obtain ⟨hs3, rfl⟩ := sextet_of_revAt h3
  exact exec_dec0 hs0 hs1 hs2 hs3

/-- Settles O32: no decode group looks at whether its characters have sextets before it answers. -/
theorem decodeGroupsAlwaysComplete : Obligations.DecodeGroupsAlwaysComplete :=
  fun _ _ => ⟨_, _, _, rfl, rfl, rfl, rfl, rfl, rfl⟩

end Sys2Proof.Machine
end

section
/-! PROOFS. The round trip (42_decoder.md R115): an encoded chunk passes every check of DecodeChunk with the padding its
length asks for, and its groups decode one by one to what they were encoded from. -/

namespace Sys2Proof.Machine

/-! ## Four sextets put together again (R74, R88) -/

theorem sextets4_of_split (acc : BitVec 24) :
    sextets4 (acc.extractLsb' 18 6) (acc.extractLsb' 12 6) (acc.extractLsb' 6 6) (acc.extractLsb' 0 6) = acc := by
  have h01 : acc.extractLsb' 18 6 ++ acc.extractLsb' 12 6 = acc.extractLsb' 12 12 :=
    BitVec.extractLsb'_append_extractLsb'_eq_extractLsb' rfl
  have h012 : acc.extractLsb' 12 12 ++ acc.extractLsb' 6 6 = acc.extractLsb' 6 18 :=
    BitVec.extractLsb'_append_extractLsb'_eq_extractLsb' rfl
  have hall : acc.extractLsb' 6 18 ++ acc.extractLsb' 0 6 = acc.extractLsb' 0 24 :=
    BitVec.extractLsb'_append_extractLsb'_eq_extractLsb' rfl
  rw [sextets4, h01, h012, hall, BitVec.extractLsb'_eq_self]

/-- R90: the octet that a group of two lacks leaves the last sextet zero. -/
theorem octets3_sextet3_eq_zero (o0 o1 : Octet) : (octets3 o0 o1 0#8).extractLsb' 0 6 = 0#6 := by
  rw [octets3, BitVec.extractLsb'_append_eq_of_add_le (by decide)]
  rfl

/-- R91: the octets that a group of one lacks leave the last two sextets zero. -/
theorem octets3_sextet2_eq_zero (o0 : Octet) : (octets3 o0 0#8 0#8).extractLsb' 6 6 = 0#6 := by
  apply BitVec.eq_of_getLsbD_eq
  intro i hi
  rw [BitVec.getLsbD_extractLsb', octets3, BitVec.getLsbD_append, BitVec.getLsbD_append,
    if_pos (show 6 + i - 8 < 8 by omega)]
  simp

theorem octetAt_octets3 (o0 o1 o2 : Octet) :
    octetAt (octets3 o0 o1 o2) 16 = o0 ∧ octetAt (octets3 o0 o1 o2) 8 = o1 ∧ octetAt (octets3 o0 o1 o2) 0 = o2 :=
  octetAt_encodeOperand o0 o1 o2

/-! ## One group -/

section
variable {fwd : FwdRom} {rev : RevRom} (hinv : ∀ a : Sextet, revAt rev (fwdAt fwd a) = a.setWidth 8)
include hinv

theorem sextetOf_fwdAt (a : Sextet) : sextetOf rev (fwdAt fwd a) = a := (sextet_of_revAt (hinv a)).2

theorem decodeGroups_encodeGroup3 (o0 o1 o2 : Octet) :
    decodeGroups rev 0 (encodeGroup3 fwd o0 o1 o2) = [o0, o1, o2] := by
  have hacc := sextets4_of_split (octets3 o0 o1 o2)
  simp [decodeGroups, encodeGroup3, split4, decodeLast, sextetOf_fwdAt hinv, decodeGroup0, hacc, octetAt_octets3]

theorem decodeGroups_encodeGroup2 (o0 o1 : Octet) : decodeGroups rev 1 (encodeGroup2 fwd o0 o1) = [o0, o1] := by
  have hacc := sextets4_of_split (octets3 o0 o1 0#8)
  rw [octets3_sextet3_eq_zero] at hacc
  simp [decodeGroups, encodeGroup2, split4, decodeLast, sextetOf_fwdAt hinv, decodeGroup1, hacc, octetAt_octets3]

theorem decodeGroups_encodeGroup1 (o0 : Octet) : decodeGroups rev 2 (encodeGroup1 fwd o0) = [o0] := by
  have hacc := sextets4_of_split (octets3 o0 0#8 0#8)
  rw [octets3_sextet3_eq_zero, octets3_sextet2_eq_zero] at hacc
  simp [decodeGroups, encodeGroup1, split4, decodeLast, sextetOf_fwdAt hinv, decodeGroup2, hacc, octetAt_octets3]

end

/-! ## Groups after groups -/

/-- Whole groups before others are decoded without padding, whatever the padding at the end. -/
theorem decodeGroups_append (rev : RevRom) (p : Nat) {a t : List Octet} (ha : a.length % 4 = 0) (ht : t ≠ []) :
    decodeGroups rev p (a ++ t) = decodeGroups rev 0 a ++ decodeGroups rev p t := by
  induction a using decodeGroups.induct with
  | case1 c0 c1 c2 c3 =>
    obtain ⟨d, ds, rfl⟩ := List.exists_cons_of_ne_nil ht
    simp [decodeGroups]
  | case2 c0 c1 c2 c3 c rest ih =>
    have hwhole : (c :: rest).length % 4 = 0 := (Nat.add_mod_right _ 4).symm.trans ha
    simpa [decodeGroups] using ih hwhole
  | case3 a hnot =>
    obtain rfl := eq_nil_of_no_group ha hnot
    rfl

/-- How many `=` the encoding of a chunk ends in (41_encoder.md R89 to R91). -/
def shortBy (b : List Octet) : Nat := (3 - b.length % 3) % 3

theorem shortBy_le_two (b : List Octet) : shortBy b ≤ 2 := Nat.lt_succ_iff.mp (Nat.mod_lt _ (by decide))

theorem shortBy_group (o0 o1 o2 : Octet) (rest : List Octet) : shortBy (o0 :: o1 :: o2 :: rest) = shortBy rest := by
  simp [shortBy, Nat.add_assoc]

/-- An encoded chunk is characters of the alphabet and then its padding. -/
theorem encodeChunk_eq_append_padding (fwd : FwdRom) (b : List Octet) :
    ∃ body, encodeChunk fwd b = body ++ List.replicate (shortBy b) padChar ∧
      ∀ c ∈ body, ∃ a : Sextet, fwdAt fwd a = c := by
  induction b using encodeChunk.induct with
  | case1 o0 o1 o2 rest ih =>
    obtain ⟨body, hbody, hchars⟩ := ih
    refine ⟨encodeGroup3 fwd o0 o1 o2 ++ body, ?_, List.forall_mem_append.mpr ⟨by simp [encodeGroup3], hchars⟩⟩
    rw [encodeChunk, hbody, shortBy_group, List.append_assoc]
  | case2 o0 o1 => exact ⟨(encodeGroup2 fwd o0 o1).take 3, rfl, by simp [encodeGroup2]⟩
  | case3 o0 => exact ⟨(encodeGroup1 fwd o0).take 2, rfl, by simp [encodeGroup1]⟩
  | case4 => exact ⟨[], rfl, by simp⟩

theorem decodeGroups_encodeChunk {fwd : FwdRom} {rev : RevRom}
    (hinv : ∀ a : Sextet, revAt rev (fwdAt fwd a) = a.setWidth 8) (b : List Octet) :
    decodeGroups rev (shortBy b) (encodeChunk fwd b) = b := by
  induction b using encodeChunk.induct with
  | case1 o0 o1 o2 rest ih =>
    rw [encodeChunk, shortBy_group]
    have hgroup := decodeGroups_encodeGroup3 hinv o0 o1 o2
    by_cases hrest : rest = []
    · subst hrest
      rwa [encodeChunk, List.append_nil]
    · have hne : encodeChunk fwd rest ≠ [] := by
        have hpos := List.length_pos_iff.mpr hrest
        rw [← List.length_pos_iff, encodeChunk_length]
        omega
      rw [decodeGroups_append rev _ (by simp [encodeGroup3]) hne, hgroup, ih]
      rfl
  | case2 o0 o1 => exact decodeGroups_encodeGroup2 hinv o0 o1
  | case3 o0 => exact decodeGroups_encodeGroup1 hinv o0
  | case4 => rfl

/-- Settles O44: the encoded chunk passes the checks, and its groups decode to the chunk. -/
theorem decodeOfEncodeChunk : Obligations.DecodeOfEncodeChunk := by
  intro b
  obtain ⟨hinv, -, -⟩ := reverseAlphabetDerived
  obtain ⟨body, hbody, hchars⟩ := encodeChunk_eq_append_padding alphabet b
  have hwhole : (encodeChunk alphabet b).length % 4 = 0 := by rw [encodeChunk_length, Nat.mul_mod_left]
  have hstrip : encodeChunk alphabet b = stripNewline (encodeChunk alphabet b) :=
    (stripNewline_of_not (.inl (by omega))).symm
  have hend : ¬ [padChar] <:+ body := fun hpad => by
    obtain ⟨a, ha⟩ := hchars padChar (hpad.subset (List.mem_singleton_self _))
    obtain ⟨-, -, hne, -⟩ := fwdAt_alphabet_printable a
    exact hne ha
  obtain ⟨hcount, hshort⟩ := padding_of_append_replicate hend (shortBy_le_two b)
  rw [← hbody] at hcount hshort
  have hlegal : ∀ c ∈ (encodeChunk alphabet b).take ((encodeChunk alphabet b).length - shortBy b),
      isSextet reverseAlphabet c = true := by
    intro c hc
    obtain ⟨a, rfl⟩ := hchars c (by simpa [hbody] using hc)
    exact (sextet_of_revAt (hinv a)).1
  rw [decodeChunk_of_valid hstrip hwhole hshort (by rwa [hcount]), hcount, decodeGroups_encodeChunk hinv]

end Sys2Proof.Machine
end

section
/-! PROOFS. PROC on the adapter's turn, and what storing a chunk's output leaves in OBUF; then PROC in Decode
(43_stream_adapter.md R126, R127; 60_exceptions.md R156 to R160). -/

namespace Sys2Proof.Machine

theorem step_of_proc {s : State} (hturn : nextAgent s = .adapter) (hproc : s.state = .process) :
    step s = execProc (dropTurn s) := by
  simp [step, fetch, hturn, hproc]

/-! ## OBUF after a write of several octets from its start -/

theorem Memory.read_writeRange_inside {size : Nat} {m m' : Memory} {bs : List Octet}
    (h : writeRange size m 0 bs = .ok m') (hfit : bs.length ≤ size) {a : Nat} (ha : a < bs.length) :
    (read size m' a).toOption = bs[a]? := by
  have hlook : lookup m' a = bs[a]? := by rw [lookup_writeRange h a, if_pos (by omega), Nat.sub_zero]
  rw [List.getElem?_eq_getElem ha] at hlook ⊢
  rw [read_ok.mpr ⟨Nat.lt_of_lt_of_le ha hfit, hlook⟩]
  rfl

theorem Memory.read_writeRange_beyond {size : Nat} {m m' : Memory} {bs : List Octet}
    (h : writeRange size m 0 bs = .ok m') {a : Nat} (ha : bs.length ≤ a) : read size m' a = read size m a := by
  have hlook : lookup m' a = lookup m a := by rw [lookup_writeRange h a, if_neg (by omega)]
  simp only [read, hlook]

/-- A chunk's output that fits is stored: OBUF holds it from address 0 on, and every other octet reads as before. -/
theorem storeChunk_of_fits {s : State} {out : List Octet} (hfit : out.length ≤ s.params.obufSize) :
    ∃ obuf, storeChunk out s = .next (if s.mode = .decode ∧ out.length = 0
        then endOfChunk (offerChunk obuf out.length s) else offerChunk obuf out.length s) ∧
      (∀ a, a < out.length → (Memory.read s.params.obufSize obuf a).toOption = out[a]?) ∧
      ∀ a, out.length ≤ a → Memory.read s.params.obufSize obuf a = Memory.read s.params.obufSize s.obuf a := by
  obtain ⟨obuf, hwrite⟩ := Memory.writeRange_of_le (size := s.params.obufSize) s.obuf 0 out (by omega)
  exact ⟨obuf, by simp only [storeChunk, hwrite], fun _ => Memory.read_writeRange_inside hwrite hfit,
    fun _ => Memory.read_writeRange_beyond hwrite⟩

/-! ## PROC in Decode -/

section
variable {s : State} {chunk : List Octet} (hmode : s.mode = .decode)
  (hread : Memory.readRange s.params.bufSize s.buf 0 s.cnt = .ok chunk)
include hmode hread

theorem execProc_decode_ok {out : List Octet} (hdecode : decodeChunk s.rev chunk = .ok out) :
    execProc s = storeChunk out s := by
  simp only [execProc, hread, hmode, hdecode]

theorem execProc_decode_error {e : ChunkError} (hdecode : decodeChunk s.rev chunk = .error e) :
    execProc s = .next (failChunk e s) := by
  simp only [execProc, hread, hmode, hdecode]

end

/-- The position of a failed chunk is its start, and beyond it the index of the illegal character (R158 to R160). -/
theorem failChunk_eq_enterError (e : ChunkError) (s : State) :
    failChunk e s = enterError e.cause e.char
      (s.inCount - BitVec.ofNat 32 s.cnt + if e.cause = .illegalChar then BitVec.ofNat 32 e.index else 0#32)
      (BitVec.ofNat 32 e.len) s := by
  unfold failChunk
  split_ifs
  · rfl
  · rw [BitVec.add_zero]

/-- Settles O28: a chunk that decodes is stored, one that does not enters ERROR with the code of its cause. -/
theorem procDecodesChunk : Obligations.ProcDecodesChunk := by
  intro s chunk hinv hproc hmode hturn hread
  rw [step_of_proc hturn hproc]
  split
  next out hdecode =>
    have hfit : out.length ≤ s.params.obufSize := decodeChunk_fits hinv (Memory.readRange_ok.mp hread).1 hdecode
    obtain ⟨obuf, hstore, hin, hbeyond⟩ := storeChunk_of_fits (s := dropTurn s) hfit
    refine ⟨obuf, ?_, hin, hbeyond⟩
    rw [execProc_decode_ok (s := dropTurn s) hmode hread hdecode, hstore]
    by_cases hempty : out = []
    · subst hempty
      rw [if_pos ⟨hmode, rfl⟩, if_pos rfl]
      rfl
    · rw [if_neg (by simp [hempty]), if_neg hempty]
      rfl
  next e hdecode =>
    rw [execProc_decode_error (s := dropTurn s) hmode hread hdecode, failChunk_eq_enterError]
    obtain ⟨cause, char, index, len⟩ := e
    cases cause <;> rfl

end Sys2Proof.Machine
end

section
/-! PROOFS. The effective size, and each beat and each response of the sink in the state that takes it
(43_stream_adapter.md R120, R123 to R125, R128 to R130). -/

namespace Sys2Proof.Machine

/-- Settles O15: rounding to whole groups of three or of four octets is linear arithmetic. -/
theorem effectiveSizeBounds : Obligations.EffectiveSizeBounds := by
  intro m req bufMax h
  cases m <;> simp only [effectiveSize, groupSize] <;> omega

/-! ## The source -/

theorem Memory.read_insert_self {size : Nat} (m : Memory) {a : Nat} (b : Octet) (ha : a < size) :
    read size (insert m a b) a = .ok b :=
  read_ok.mpr ⟨ha, lookup_insert_self m a b⟩

theorem Memory.read_insert_other (size : Nat) (m : Memory) {a x : Nat} (b : Octet) (h : x ≠ a) :
    read size (insert m a b) x = read size m x := by
  simp only [read, lookup_insert_other m b h]

theorem execSrcData_of_fill {s : State} (d : Octet) (hfill : s.state = .fill) (hroom : s.cnt < s.params.bufSize) :
    exec (.srcData d) s = .next (acceptOctet (Memory.insert s.buf s.cnt d) s) := by
  simp only [exec, execSrcData, if_pos hfill, Memory.write_of_lt _ _ hroom]

theorem execSrcEof_of_fill {s : State} (x : Octet) (hfill : s.state = .fill) :
    exec (.srcEof x) s = .next (endOfInput s) := if_pos hfill

/-- Settles O20: the octet is listed at CNT, and a read elsewhere does not see it. -/
theorem srcDataStoresOctet : Obligations.SrcDataStoresOctet := by
  intro s d hfill hroom
  refine ⟨Memory.insert s.buf s.cnt d, ?step, Memory.read_insert_self _ d hroom, fun _ => ?other⟩
  case step =>
    rw [execSrcData_of_fill d hfill hroom, ← hfill]
    rfl
  case other => exact Memory.read_insert_other _ _ d

/-- Settles O21: a chunk that holds an octet is left to PROC. -/
theorem srcEofEndsInput : Obligations.SrcEofEndsInput := by
  intro s x hfill
  rw [execSrcEof_of_fill x hfill, endOfInput]
  by_cases hempty : s.cnt = 0
  · rw [if_neg (by omega), if_pos hempty]
  · rw [if_pos (by omega), if_neg hempty]

/-- Settles O22: in FILL the beat enters ERROR with the cause IO_READ. -/
theorem srcErrEntersError : Obligations.SrcErrEntersError := fun _ _ hfill => if_pos hfill

/-! ## The sink -/

theorem execSnkAck_of_drain {s : State} {b : Octet} (hdrain : s.state = .drain)
    (hread : Memory.read s.params.obufSize s.obuf s.optr = .ok b) :
    exec .snkAck s = .next (if s.optr + 1 = s.ocnt then endOfChunk (giveOctet b s) else giveOctet b s) := by
  simp only [exec, execSnkAck, if_pos hdrain, hread]

/-- Settles O24: the octet is given, and after the last one the chunk ends. -/
theorem snkAckDeliversOctet : Obligations.SnkAckDeliversOctet := fun _ _ => execSnkAck_of_drain

/-- Settles O25: in DRAIN the response enters ERROR with the cause IO_WRITE. -/
theorem snkErrEntersError : Obligations.SnkErrEntersError := fun _ hdrain => if_pos hdrain

end Sys2Proof.Machine
end

section
/-! PROOFS. PROC in Encode, and the size of the chunk it takes (43_stream_adapter.md R126, R132). -/

namespace Sys2Proof.Machine

theorem execProc_encode {s : State} {chunk : List Octet} (hmode : s.mode = .encode)
    (hread : Memory.readRange s.params.bufSize s.buf 0 s.cnt = .ok chunk) :
    execProc s = storeChunk (encodeChunk s.fwd chunk) s := by
  simp only [execProc, hread, hmode]

/-- Settles O27: the encoded chunk fits OBUF, is stored there; only in Decode may a chunk end without output. -/
theorem procEncodesChunk : Obligations.ProcEncodesChunk := by
  intro s chunk hinv hproc hmode hturn hread
  have hfit := encodeChunk_fits hinv hmode (Memory.readRange_ok.mp hread).1
  obtain ⟨obuf, hstore, hin, hbeyond⟩ := storeChunk_of_fits (s := dropTurn s) hfit
  refine ⟨obuf, ?step, hin, hbeyond⟩
  rw [step_of_proc hturn hproc, execProc_encode (s := dropTurn s) hmode hread, dropTurn_fwd, hstore,
    if_neg (by simp [hmode])]
  rfl

/-- Settles O51: the invariant holds after the step, and says which of the two sizes the chunk in PROCESS has. -/
theorem chunksAreWholeGroups : Obligations.ChunksAreWholeGroups := by
  intro s t hinv hstep hproc
  have hafter := stepKeepsInvariant s t hinv hstep
  obtain ⟨hpos, hfull, hshort⟩ := hafter.inProcess hproc
  exact ⟨fun heof => ⟨hfull heof, hfull heof ▸ hafter.effWhole⟩, fun heof => ⟨hpos, hshort heof⟩⟩

end Sys2Proof.Machine
end

section
/-! PROOFS. What a running transcode, one that has ended, and the octets the sink has accepted are safe from
(43_stream_adapter.md R129, R131, R134, R137; 60_exceptions.md R169). -/

namespace Sys2Proof.Machine

/-! ## DONE and ERROR -/

/-- The source's port is closed once a transcode has ended. -/
theorem not_onTurn_src_of_ended {s : State} {b : BitVec 10} (hended : s.state = .done ∨ s.state = .error) :
    ¬ OnTurn s (.src b) := by
  rintro ⟨-, hfill, -⟩
  simp [hfill] at hended

theorem exec_sink_ne_next {s t : State} {i : Instr} (hagent : instrAgent i = .sink) (hdrain : s.state ≠ .drain) :
    exec i s ≠ .next t := by
  obtain ⟨hack, herr⟩ := sinkOutsideDrainRefused s hdrain
  cases i with
  | snkAck => simp [hack]
  | snkErr => simp [herr]
  | _ => cases hagent

theorem exec_groupSelect_state {s t : State} {i : Instr} (hagent : instrAgent i = .groupSelect)
    (hexec : exec i s = .next t) : t.state = s.state := by
  cases i with
  | enc3 | enc2 | enc1 | dec0 | dec1 | dec2 => cases hexec; rfl
  | _ => cases hagent

/-- Of the host's instructions only the three commands can change STATE. -/
theorem exec_host_state {b : BitVec 41} {s t : State} {i : Instr} (hdecode : decode (.bus b) = .ok i)
    (hexec : exec i s = .next t) (hne : t.state ≠ s.state) : i = .startEncode ∨ i = .startDecode ∨ i = .clear := by
  obtain ⟨r, v, rfl⟩ | hw := decodeBus_ok hdecode
  · cases hexec
    exact absurd rfl hne
  obtain ⟨m, hi, -, -⟩ | ⟨hi, -, -⟩ | ⟨-, -, -, rfl⟩ | ⟨r, hr, -, rfl⟩ := hw.next_cases hexec
  · exact hi.imp_right .inl
  · exact .inr (.inr hi)
  · exact absurd rfl hne
  · obtain ⟨ie, rej, qe, qd, he⟩ := writeReg_of_ne_cmd hr (b.extractLsb' 0 32) s
    rw [he] at hne
    exact absurd rfl hne

/-- Settles O53: in DONE and ERROR the ports are closed and PROC is not enabled, so that only the host and reset act. -/
theorem doneAndErrorAreQuiescent : Obligations.DoneAndErrorAreQuiescent := by
  intro s t hended hnext
  have hdrain (w : PortWord) : (takeWord w s).state ≠ .drain := by
    obtain ⟨e, he⟩ := takeWord_eq_withEnv w s
    rcases hended with hs | hs <;> simp [he, hs]
  cases step_cases s with
  | waits hstep =>
    cases hstep.symm.trans hnext
    exact ⟨fun _ => rfl, fun hne => absurd rfl hne⟩
  | resets hturn hstep => exact ⟨by simp [hturn], fun _ => .inl hturn⟩
  | processes _ hproc _ => simp [hproc] at hended
  | refuses _ _ _ _ hstep => cases hstep.symm.trans hnext
  | runs w i hturn hdecode hstep =>
    have hexec := hstep.symm.trans hnext
    have hagent := decode_ok_agent hdecode
    cases w with
    | src b => exact absurd hturn (not_onTurn_src_of_ended hended)
    | snk b => exact absurd hexec (exec_sink_ne_next hagent (hdrain _))
    | gop sel operand => exact ⟨by simp [hturn.1], fun hne => absurd (exec_groupSelect_state hagent hexec) hne⟩
    | bus b =>
      refine ⟨by simp [hturn.1], fun hne => .inr ⟨hturn.1, b, hturn.2, ?_⟩⟩
      obtain rfl | rfl | rfl := exec_host_state hdecode hexec hne
      · exact .inl hdecode
      · exact .inr (.inl hdecode)
      · exact .inr (.inr hdecode)

/-! ## The host while a transcode runs -/

/-- While the block is busy a host instruction writes the answer, CMD_REJ, IE and the two requests at most. -/
theorem exec_host_busy {b : BitVec 41} {s t : State} {i : Instr}
    (hbusy : s.state = .fill ∨ s.state = .process ∨ s.state = .drain) (hdecode : decode (.bus b) = .ok i)
    (hexec : exec i s = .next t) : ∃ (answer : Word) (rej ie : Bool) (qe qd : Word), t = { s with
      cmdRej := rej, ie := ie, reqBufEnc := qe, reqBufDec := qd, env := { s.env with rdata := answer } } := by
  have hrejects : acceptsCommand s = false := (acceptsCommand_eq_false_iff s).mpr hbusy
  obtain ⟨r, v, rfl⟩ | hw := decodeBus_ok hdecode
  · cases hexec
    exact ⟨_, _, _, _, _, rfl⟩
  obtain ⟨m, -, haccepts, -⟩ | ⟨-, haccepts, -⟩ | ⟨-, -, -, rfl⟩ | ⟨r, hr, -, rfl⟩ := hw.next_cases hexec
  · simp [hrejects] at haccepts
  · simp [hrejects] at haccepts
  · exact ⟨_, _, _, _, _, rfl⟩
  · obtain ⟨ie, rej, qe, qd, he⟩ := writeReg_of_ne_cmd hr (b.extractLsb' 0 32) s
    rw [he]
    exact ⟨_, _, _, _, _, rfl⟩

/-- Settles O54: the host waits, or its word is run where no command is accepted. -/
theorem runningTranscodeNotCancelled : Obligations.RunningTranscodeNotCancelled := by
  intro s t hbusy hturn hnext
  cases hq : s.env.busQ with
  | nil =>
    have hwait := disabledAgentWaits s (.inr (.inr (.inl ⟨hturn, hq⟩)))
    cases hwait.symm.trans hnext
    exact ⟨s.env.rdata, s.cmdRej, s.ie, s.reqBufEnc, s.reqBufDec, by simp [hq]⟩
  | cons b bs =>
    have hfetch := fetch_host hturn hq
    cases hdecode : decode (.bus b) with
    | error e => cases (step_of_fetch_runWord_error hfetch hdecode).symm.trans hnext
    | ok i =>
      have hexec := (step_of_fetch_runWord hfetch hdecode).symm.trans hnext
      obtain ⟨answer, rej, ie, qe, qd, rfl⟩ := exec_host_busy (by exact hbusy) hdecode hexec
      exact ⟨answer, rej, ie, qe, qd, rfl⟩

/-! ## What the sink has accepted -/

theorem tryCommand_env {effect : State → State} {s : State} (heffect : (effect s).env = s.env) :
    (tryCommand effect s).env = s.env := by
  rcases tryCommand_cases effect s with ⟨-, he⟩ | ⟨-, he⟩ <;> rw [he]
  · exact heffect
  · rfl

theorem command_env (v : Word) (s : State) : (command v s).env = s.env := by
  unfold command
  split_ifs
  · exact tryCommand_env rfl
  · exact tryCommand_env rfl
  · exact tryCommand_env rfl
  · rfl

/-- No register write reaches the environment. -/
theorem writeReg_env (r : Reg) (v : Word) (s : State) : (writeReg r v s).env = s.env := by
  by_cases hr : r = .cmd
  · subst hr
    exact command_env v s
  · obtain ⟨ie, rej, qe, qd, he⟩ := writeReg_of_ne_cmd hr v s
    rw [he]

/-- PROC gives the sink nothing. -/
theorem execProc_env {s t : State} (h : execProc s = .next t) : t.env = s.env := by
  have hstored {out : List Octet} (hstore : storeChunk out s = .next t) : t.env = s.env := by
    obtain ⟨m, -, rfl⟩ := storeChunk_next hstore
    split <;> rfl
  obtain ⟨chunk, -, ⟨-, hstore⟩ | ⟨-, out, -, hstore⟩ | ⟨-, e, -, rfl⟩⟩ := execProc_next h
  · exact hstored hstore
  · exact hstored hstore
  · rfl

/-- No instruction but SNK_ACK gives the sink an octet. -/
theorem exec_delivered {s t : State} {i : Instr} (hne : i ≠ .snkAck) (h : exec i s = .next t) :
    t.env.delivered = s.env.delivered := by
  cases i with
  | snkAck => exact absurd rfl hne
  | startEncode | startDecode | clear =>
    cases h
    exact congrArg Env.delivered (tryCommand_env rfl)
  | regWrite r v =>
    cases h
    exact congrArg Env.delivered (writeReg_env r v s)
  | srcData d => obtain ⟨-, -, rfl⟩ | ⟨-, rfl⟩ := execSrcData_next h <;> rfl
  | srcEof | srcErr | snkErr =>
    simp only [exec, execSrcEof, execSrcErr, execSnkErr] at h
    split at h <;> cases h
    all_goals rfl
  | regRead | enc3 | enc2 | enc1 | dec0 | dec1 | dec2 => cases h; rfl

/-- Settles O57: only SNK_ACK gives an octet, and it is the one on offer. -/
theorem deliveredNeverWithdrawn : Obligations.DeliveredNeverWithdrawn := by
  intro s t hnext
  cases step_cases s with
  | waits hstep => cases hstep.symm.trans hnext; exact .inl rfl
  | resets _ hstep => cases hstep.symm.trans hnext; exact .inl rfl
  | processes _ _ hstep =>
    exact .inl (by rw [execProc_env (hstep.symm.trans hnext), dropTurn_env_delivered])
  | refuses _ _ _ _ hstep => cases hstep.symm.trans hnext
  | runs w i hturn hdecode hstep =>
    have hexec := hstep.symm.trans hnext
    obtain ⟨e, he, hkept⟩ : ∃ e : Env, takeWord w s = { s with env := e } ∧ e.delivered = s.env.delivered := by
      cases w <;> exact ⟨_, rfl, rfl⟩
    rw [he] at hexec
    by_cases hack : i = .snkAck
    · subst hack
      obtain ⟨hdrain, b, hlt, hlook, rfl⟩ := execSnkAck_next hexec
      have hread : Memory.read s.params.obufSize s.obuf s.optr = .ok b := Memory.read_ok.mpr ⟨hlt, hlook⟩
      have hturn' : nextAgent s = .sink := by rw [hturn.nextAgent_eq, ← decode_ok_agent hdecode]; rfl
      have hoffer : offered s = some b := by simp only [offered, if_pos hdrain, hread]; rfl
      refine .inr ⟨hturn', hdrain, ?_, b, hoffer, hread, ?_⟩
      · split <;> rfl
      · split <;> simp [hkept]
    · exact .inl ((exec_delivered hack hexec).trans hkept)

end Sys2Proof.Machine
end

section
/-! PROOFS. The chunks of an input, and the function Transcode where its codec reads a chunk and what follows it
independently (43_stream_adapter.md R138 to R140). -/

namespace Sys2Proof.Machine

/-! ## The chunks of an input -/

section
variable {E : Nat} (hE : 0 < E)
include hE

/-- As many chunks as octets are enough. -/
theorem chunksUpTo_of_length_le {fuel : Nat} {S : List Octet} (h : S.length ≤ fuel) :
    chunksUpTo fuel E S = chunks E S := by
  have hsucc : ∀ (n : Nat) (T : List Octet), T.length ≤ n → chunksUpTo (n + 1) E T = chunksUpTo n E T := by
    intro n
    induction n with
    | zero => intro T hT; simp [chunksUpTo, List.length_eq_zero_iff.mp (Nat.le_zero.mp hT)]
    | succ n ih =>
      intro T hT
      by_cases hempty : T = []
      · simp [chunksUpTo, hempty]
      · rw [chunksUpTo, if_neg hempty, ih (T.drop E) (by rw [List.length_drop]; omega), chunksUpTo, if_neg hempty]
  induction fuel, h using Nat.le_induction with
  | base => rfl
  | succ n hn ih => rw [hsucc n S hn, ih]

theorem chunks_of_ne_nil {S : List Octet} (h : S ≠ []) : chunks E S = S.take E :: chunks E (S.drop E) := by
  have hpos := List.length_pos_iff.mpr h
  obtain ⟨n, hn⟩ := Nat.exists_eq_add_of_le' hpos
  rw [chunks, hn, chunksUpTo, if_neg h, chunksUpTo_of_length_le hE (by rw [List.length_drop]; omega)]

/-- The first chunk taken off: E octets, or the whole input where it is shorter. -/
theorem chunks_append {ch rest : List Octet} (hne : ch ≠ []) (h : ch.length = E ∨ ch.length < E ∧ rest = []) :
    chunks E (ch ++ rest) = ch :: chunks E rest := by
  rw [chunks_of_ne_nil hE (by simp [hne])]
  obtain rfl | ⟨hlt, rfl⟩ := h
  · rw [List.take_left, List.drop_left]
  · rw [List.append_nil, List.take_of_length_le hlt.le, List.drop_of_length_le hlt.le]

theorem chunks_of_length_le {S : List Octet} (hne : S ≠ []) (h : S.length ≤ E) : chunks E S = [S] := by
  have hone := chunks_append hE (rest := []) hne ((Nat.lt_or_eq_of_le h).symm.imp_right (⟨·, rfl⟩))
  rwa [List.append_nil] at hone

/-! ## Transcode -/

/-- A codec that accepts a whole input only by accepting each E octets of it and the rest separately gives the same
output chunk by chunk. -/
theorem transcodeChunks_eq_of_split {f : List Octet → Except ChunkError (List Octet)} (hnil : f [] = .ok [])
    (hsplit : ∀ ch rest out, ch.length = E → f (ch ++ rest) = .ok out →
      ∃ o o', f ch = .ok o ∧ f rest = .ok o' ∧ out = o ++ o')
    {S out : List Octet} (h : f S = .ok out) : transcodeChunks f (chunks E S) = (out, none) := by
  induction hlen : S.length using Nat.strong_induction_on generalizing S out with
  | _ n ih =>
    by_cases hempty : S = []
    · subst hempty
      obtain rfl := Except.ok.inj (hnil.symm.trans h)
      rfl
    by_cases hle : S.length ≤ E
    · rw [chunks_of_length_le hE hempty hle]
      simp [transcodeChunks, h]
    · have htake : (S.take E).length = E := List.length_take_of_le (by omega)
      rw [← List.take_append_drop E S] at h
      obtain ⟨o, o', ho, ho', rfl⟩ := hsplit _ _ _ htake h
      have hrest := ih (S.drop E).length (by rw [List.length_drop]; omega) ho' rfl
      rw [chunks_of_ne_nil hE hempty, transcodeChunks, ho, hrest]

end

/-- Settles O45: E octets are whole groups, which are encoded on their own. -/
theorem streamedEncodeIsExact : Obligations.StreamedEncodeIsExact := by
  intro fwd rev E S hwhole hE
  have hpos : 0 < E := by omega
  refine transcodeChunks_eq_of_split (f := codecFn fwd rev .encode) hpos rfl (fun ch rest out hlen hout => ?_) rfl
  obtain rfl := Except.ok.inj hout
  exact ⟨_, _, rfl, rfl, encodeChunk_append fwd rest (by rwa [hlen])⟩

/-! ## Whole groups of a text, decoded on their own -/

section
variable {rev : RevRom} {t0 t a out : List Octet}

/-- What a text passes where it decodes, and what it decodes to (R103, R111). -/
theorem decodeChunk_ok_iff (ht : t = stripNewline t0) : decodeChunk rev t0 = .ok out ↔
    t.length % 4 = 0 ∧ paddingTooLong t = false ∧ (∀ c ∈ t.take (t.length - padCount t), isSextet rev c = true) ∧
      out = decodeGroups rev (padCount t) t := by
  constructor
  · intro h
    obtain ⟨hlen, hlegal⟩ := decodeChunk_ok_valid ht h
    refine ⟨hlen, Bool.eq_false_iff.mpr fun hpad => ?_, hlegal, ht ▸ decodeChunk_ok h⟩
    cases (decodeChunk_of_paddingTooLong ht hlen hpad).symm.trans h
  · rintro ⟨hlen, hpad, hlegal, rfl⟩
    exact decodeChunk_of_valid ht hlen hpad hlegal

/-- The newline concession looks at the end of a text only. -/
theorem stripNewline_append (ha : a.length % 4 = 0) (hne : t ≠ []) : stripNewline (a ++ t) = a ++ stripNewline t := by
  have hpos := List.length_pos_iff.mpr hne
  have hlen : (a ++ t).length % 4 = t.length % 4 := by rw [List.length_append]; omega
  have hidx : (a ++ t).length - 1 = a.length + (t.length - 1) := by rw [List.length_append]; omega
  simp only [stripNewline, hlen, hidx, List.getElem?_append_right (Nat.le_add_right _ _), Nat.add_sub_cancel_left,
    List.take_length_add_append]
  split_ifs <;> rfl

/-- No more octets than it has are looked at where a text is scanned for a suffix. -/
theorem suffix_append_iff_of_length_le {l : List Octet} (h : l.length ≤ t.length) : l <:+ a ++ t ↔ l <:+ t :=
  have hself := List.suffix_append a t
  ⟨fun hl => List.suffix_of_suffix_length_le hl hself h, fun hl => hl.trans hself⟩

/-- Characters that all have sextets hold no padding. -/
theorem padCount_eq_zero_of_legal (hpad : isSextet rev padChar = false) (h : ∀ c ∈ a, isSextet rev c = true) :
    padCount a = 0 := by
  refine padCount_eq_zero_iff.mpr fun hsuffix => ?_
  exact Bool.false_ne_true (hpad.symm.trans (h padChar (hsuffix.subset (List.mem_singleton_self _))))

/-- Whole groups of characters with sextets decode by themselves, whatever follows them. -/
theorem decodeChunk_of_legal (hpad : isSextet rev padChar = false) (ha : a.length % 4 = 0)
    (h : ∀ c ∈ a, isSextet rev c = true) : decodeChunk rev a = .ok (decodeGroups rev 0 a) := by
  have hcount := padCount_eq_zero_of_legal hpad h
  have hstrip : a = stripNewline a := (stripNewline_of_not (.inl (by omega))).symm
  refine (decodeChunk_ok_iff hstrip).mpr ⟨ha, ?_, fun c hc => h c (List.mem_of_mem_take hc), by rw [hcount]⟩
  simp [paddingTooLong, hcount]

/-- A text that decodes, cut after whole groups, is two that decode. -/
theorem decodeChunk_append_ok (hpad : isSextet rev padChar = false) (ha : a.length % 4 = 0)
    (h : decodeChunk rev (a ++ t0) = .ok out) :
    ∃ o o', decodeChunk rev a = .ok o ∧ decodeChunk rev t0 = .ok o' ∧ out = o ++ o' := by
  by_cases hempty : t0 = []
  · subst hempty
    rw [List.append_nil] at h
    exact ⟨out, [], h, rfl, (List.append_nil out).symm⟩
  have hstrip := stripNewline_append ha hempty
  obtain ⟨t, ht⟩ : ∃ t, t = stripNewline t0 := ⟨_, rfl⟩
  rw [← ht] at hstrip
  obtain ⟨hlen, hshort, hlegal, rfl⟩ := (decodeChunk_ok_iff hstrip.symm).mp h
  have hwhole : t.length % 4 = 0 := by rw [List.length_append] at hlen; omega
  by_cases hnil : t = []
  · subst hnil
    rw [List.append_nil] at hstrip hshort hlegal ⊢
    have hself : a = stripNewline a := (stripNewline_of_not (.inl (by omega))).symm
    exact ⟨_, [], (decodeChunk_ok_iff hself).mpr ⟨ha, hshort, hlegal, rfl⟩,
      (decodeChunk_ok_iff ht).mpr ⟨rfl, rfl, by simp, rfl⟩, (List.append_nil _).symm⟩
  · have hfour : 4 ≤ t.length := by have := List.length_pos_iff.mpr hnil; omega
    have hscan {l : List Octet} (hl : l.length ≤ 4) : l <:+ a ++ t ↔ l <:+ t :=
      suffix_append_iff_of_length_le (hl.trans hfour)
    have hcount : padCount (a ++ t) = padCount t := by
      simp only [padCount_eq, hscan (l := [padChar]) (by decide), hscan (l := [padChar, padChar]) (by decide)]
    have hle := padCount_le_two t
    have hcut : (a ++ t).length - padCount t = a.length + (t.length - padCount t) := by
      rw [List.length_append]
      omega
    rw [hcount, hcut, List.take_length_add_append] at hlegal
    obtain ⟨hlegalA, hlegalT⟩ := List.forall_mem_append.mp hlegal
    rw [paddingTooLong_eq_false_iff, hscan (by decide), ← paddingTooLong_eq_false_iff] at hshort
    exact ⟨_, _, decodeChunk_of_legal hpad ha hlegalA, (decodeChunk_ok_iff ht).mpr ⟨hwhole, hshort, hlegalT, rfl⟩,
      by rw [hcount, decodeGroups_append rev _ ha hnil]⟩

end

theorem isSextet_padChar : isSextet reverseAlphabet padChar = false := by
  obtain ⟨-, hpad, -⟩ := reverseAlphabetDerived
  rw [isSextet_eq_false_iff, padChar, hpad]
  decide

/-- Settles O46: E octets are whole groups, which decode on their own; the two examples are computed on their chunks. -/
theorem streamedDecodeOfValidInput : Obligations.StreamedDecodeOfValidInput := by
  refine ⟨?valid, fun fwd => ?four, fun fwd E hE => ?eight⟩
  case valid =>
    intro fwd E S b hwhole hE h
    have hpos : 0 < E := by omega
    exact transcodeChunks_eq_of_split (f := codecFn fwd reverseAlphabet .decode) hpos rfl
      (fun ch rest out hlen => decodeChunk_append_ok isSextet_padChar (by rwa [hlen])) h
  case four => rfl
  case eight =>
    rw [transcode, chunks_of_length_le (by omega) (by simp) hE]
    rfl

end Sys2Proof.Machine
end

section
/-! PROOFS. What is still to come of a running transcode, as a forecast of the state it ends in (43_stream_adapter.md
R127, R138): the definitions, and how the named updates of the state change what they speak of. -/

namespace Sys2Proof.Machine

/-! ## Buffers -/

/-- An octet listed behind those read is read after them. -/
theorem Memory.readRange_insert_end {size n : Nat} {m : Memory} {bs : List Octet} (h : readRange size m 0 n = .ok bs)
    (hn : n < size) (b : Octet) : readRange size (insert m n b) 0 (n + 1) = .ok (bs ++ [b]) := by
  obtain ⟨rfl, hbs⟩ := readRange_ok.mp h
  refine readRange_ok.mpr ⟨by simp, fun k hk => ⟨by omega, ?_⟩⟩
  rw [Nat.zero_add]
  rcases Nat.lt_succ_iff_lt_or_eq.mp hk with hlt | rfl
  · rw [lookup_insert_other _ _ hlt.ne, List.getElem?_append_left hlt, ← (hbs k hlt).2, Nat.zero_add]
  · rw [lookup_insert_self, List.getElem?_concat_length]

/-- Octets written from the start of a buffer are read from there. -/
theorem Memory.readRange_writeRange {size : Nat} {m m' : Memory} {bs : List Octet} (h : writeRange size m 0 bs = .ok m')
    (hfit : bs.length ≤ size) : readRange size m' 0 bs.length = .ok bs :=
  readRange_ok.mpr ⟨rfl, fun k hk =>
    ⟨by omega, by rw [lookup_writeRange h, if_pos (by omega), Nat.zero_add, Nat.sub_zero]⟩⟩

theorem Memory.readRange_succ_ok {size a n : Nat} {m : Memory} {bs : List Octet}
    (h : readRange size m a (n + 1) = .ok bs) :
    ∃ b rest, bs = b :: rest ∧ read size m a = .ok b ∧ readRange size m (a + 1) n = .ok rest := by
  simp only [readRange] at h
  split at h
  · cases h
  next b hb =>
    split at h
    · cases h
    next rest hrest => exact ⟨b, rest, (Except.ok.inj h).symm, hb, hrest⟩

/-! ## The codec of a transcode -/

/-- The codec function of the state's MODE, with the state's ROMs. -/
def State.codec (s : State) : List Octet → Except ChunkError (List Octet) := codecFn s.fwd s.rev s.mode

theorem codec_ok {s : State} {chunk out : List Octet} (h : s.codec chunk = .ok out) :
    (s.mode = .encode ∧ out = encodeChunk s.fwd chunk) ∨ (s.mode = .decode ∧ decodeChunk s.rev chunk = .ok out) := by
  unfold State.codec at h
  cases hmode : s.mode with
  | encode =>
    rw [hmode] at h
    exact .inl ⟨rfl, (Except.ok.inj h).symm⟩
  | decode =>
    rw [hmode] at h
    exact .inr ⟨rfl, h⟩

theorem codec_error {s : State} {chunk : List Octet} {e : ChunkError} (h : s.codec chunk = .error e) :
    s.mode = .decode ∧ decodeChunk s.rev chunk = .error e := by
  unfold State.codec at h
  cases hmode : s.mode with
  | encode =>
    rw [hmode] at h
    cases h
  | decode =>
    rw [hmode] at h
    exact ⟨rfl, h⟩

section
variable {s : State} {chunk out : List Octet}

/-- PROC stores what the codec makes of the chunk. -/
theorem execProc_of_codec_ok (hread : Memory.readRange s.params.bufSize s.buf 0 s.cnt = .ok chunk)
    (hout : s.codec chunk = .ok out) : execProc s = storeChunk out s := by
  obtain ⟨hmode, rfl⟩ | ⟨hmode, hdecode⟩ := codec_ok hout
  · exact execProc_encode hmode hread
  · exact execProc_decode_ok hmode hread hdecode

/-- PROC enters ERROR as the codec refuses the chunk. -/
theorem execProc_of_codec_error {e : ChunkError}
    (hread : Memory.readRange s.params.bufSize s.buf 0 s.cnt = .ok chunk) (herr : s.codec chunk = .error e) :
    execProc s = .next (failChunk e s) := by
  obtain ⟨hmode, hdecode⟩ := codec_error herr
  exact execProc_decode_error hmode hread hdecode

theorem codec_fits (h : Inv s) (hlen : chunk.length = s.cnt) (hout : s.codec chunk = .ok out) :
    out.length ≤ s.params.obufSize := by
  obtain ⟨hmode, rfl⟩ | ⟨-, hdecode⟩ := codec_ok hout
  · exact encodeChunk_fits h hmode hlen
  · exact decodeChunk_fits h hlen hdecode

/-- A chunk gives at most four octets for each of its own. -/
theorem codec_length_le (hout : s.codec chunk = .ok out) : out.length ≤ 4 * chunk.length := by
  obtain ⟨-, rfl⟩ | ⟨-, hdecode⟩ := codec_ok hout
  · rw [encodeChunk_length]
    omega
  · have hle := decodeChunk_length_le hdecode
    omega

/-- Only a chunk to decode can give no octet. -/
theorem mode_of_codec_nil (hpos : 0 < chunk.length) (hout : s.codec chunk = .ok []) : s.mode = .decode := by
  obtain ⟨-, hempty⟩ | ⟨hmode, -⟩ := codec_ok hout
  · have hlen := encodeChunk_length s.fwd chunk
    rw [← hempty, List.length_nil] at hlen
    omega
  · exact hmode

end

/-! ## What is still to come -/

/-- What a transcode ends with: what the sink has received and the counters, and, where it ends in an error, the error
and the stream offset of the chunk that fails (R127, R138). -/
structure Forecast where
  delivered  : List Octet
  outCount   : Word
  inCount    : Word
  chunkCount : Word
  error      : Option ChunkError
  failBase   : Word

/-- The state is the end that was forecast. -/
def Forecast.Met (F : Forecast) (t : State) : Prop :=
  t.env.delivered = F.delivered ∧ t.outCount = F.outCount ∧
  match F.error with
  | none => t.state = .done ∧ t.inCount = F.inCount ∧ t.chunkCount = F.chunkCount
  | some e => t.state = .error ∧ t.errChar = e.char ∧ t.errCode = errCodeOf e.cause ∧
      t.errPos = F.failBase + BitVec.ofNat 32 (if e.cause = .illegalChar then e.index else 0) ∧
      t.errLen = BitVec.ofNat 32 e.len

/-- The chunks that PROC has not taken yet, where `cur` lies in BUF and `rest` is still at the source. -/
def chunksAhead (s : State) (cur rest : List Octet) : List (List Octet) := chunks s.eff.toNat (cur ++ rest)

/-- The end forecast from a state in which, besides, `out` is on offer to the sink. -/
def forecast (s : State) (cur rest out : List Octet) : Forecast where
  delivered  := s.env.delivered ++ (out ++ (transcodeChunks s.codec (chunksAhead s cur rest)).1)
  outCount   := s.outCount + BitVec.ofNat 32 (out ++ (transcodeChunks s.codec (chunksAhead s cur rest)).1).length
  inCount    := s.inCount + BitVec.ofNat 32 rest.length
  chunkCount := s.chunkCount + BitVec.ofNat 32 (chunksAhead s cur rest).length
  error      := (transcodeChunks s.codec (chunksAhead s cur rest)).2
  failBase   := s.inCount - BitVec.ofNat 32 cur.length + BitVec.ofNat 32 (failOffset s.codec (chunksAhead s cur rest))

/-- The source still holds `rest` and the end of input; after SRC_EOF it holds nothing. -/
def SourceHolds (s : State) (rest : List Octet) : Prop :=
  (s.eofSeen = false ∧ s.env.srcQ = beatsOf rest) ∨ (s.eofSeen = true ∧ rest = [])

/-- A running transcode: `cur` lies in BUF, `rest` is still at the source, `out` is on offer to the sink. -/
inductive Underway (s : State) : (cur rest out : List Octet) → Prop
  | fill {cur rest : List Octet} (hstate : s.state = .fill)
      (hread : Memory.readRange s.params.bufSize s.buf 0 s.cnt = .ok cur) (hsrc : SourceHolds s rest) :
      Underway s cur rest []
  | process {cur rest : List Octet} (hstate : s.state = .process)
      (hread : Memory.readRange s.params.bufSize s.buf 0 s.cnt = .ok cur) (hsrc : SourceHolds s rest) :
      Underway s cur rest []
  | drain {rest out : List Octet} (hstate : s.state = .drain)
      (hread : Memory.readRange s.params.obufSize s.obuf s.optr (s.ocnt - s.optr) = .ok out)
      (hsrc : SourceHolds s rest) : Underway s [] rest out

/-- How many moves are still to be made at most: one for each octet on offer; for each octet of input one to process it
and four to deliver what it gives; and one for each beat still at the source. -/
def movesLeft (s : State) (cur rest out : List Octet) : Nat :=
  out.length + 5 * (cur.length + rest.length) + bif s.eofSeen then 0 else rest.length + 1

/-- The transcode has ended as forecast, or it will after at most `m` moves; the host makes no access. -/
def OnCourse (F : Forecast) (m : Nat) (s : State) : Prop :=
  s.env.busQ = [] ∧ (F.Met s ∨ Inv s ∧ ∃ cur rest out,
    Underway s cur rest out ∧ forecast s cur rest out = F ∧ movesLeft s cur rest out ≤ m)

theorem OnCourse.mono {F : Forecast} {m m' : Nat} {s : State} (hle : m ≤ m') (h : OnCourse F m s) :
    OnCourse F m' s := by
  obtain ⟨hbus, hmet | ⟨hinv, cur, rest, out, hunder, hfore, hmoves⟩⟩ := h
  · exact ⟨hbus, .inl hmet⟩
  · exact ⟨hbus, .inr ⟨hinv, cur, rest, out, hunder, hfore, hmoves.trans hle⟩⟩

/-- Turns and responses still to come do not matter. -/
theorem OnCourse.withEnv {F : Forecast} {m : Nat} {s : State} (h : OnCourse F m s) (turns : List Agent)
    (snkQ : List (BitVec 2)) : OnCourse F m { s with env := { s.env with turns := turns, snkQ := snkQ } } := by
  obtain ⟨hbus, hmet | ⟨hinv, cur, rest, out, hunder, hfore, hmoves⟩⟩ := h
  · exact ⟨hbus, .inl hmet⟩
  · refine ⟨hbus, .inr ⟨hinv.frame .., cur, rest, out, ?_, hfore, hmoves⟩⟩
    cases hunder with
    | fill hstate hread hsrc => exact .fill hstate hread hsrc
    | process hstate hread hsrc => exact .process hstate hread hsrc
    | drain hstate hread hsrc => exact .drain hstate hread hsrc

/-! ## The forecast through the moves of a transcode -/

/-- At the end of input nothing is ahead but what is there. -/
theorem Forecast.met_of_done {s t : State} (hstate : t.state = .done) (hdel : t.env.delivered = s.env.delivered)
    (hout : t.outCount = s.outCount) (hin : t.inCount = s.inCount) (hchunk : t.chunkCount = s.chunkCount) :
    (forecast s [] [] []).Met t := by
  have hnone : chunksAhead s [] [] = [] := rfl
  simp [Forecast.Met, forecast, hnone, transcodeChunks, hstate, hdel, hout, hin, hchunk]

theorem forecast_acceptOctet (buf : Memory) (s : State) (cur rest : List Octet) (d : Octet) :
    forecast (acceptOctet buf s) (cur ++ [d]) rest [] = forecast s cur (d :: rest) [] := by
  have hahead : chunksAhead (acceptOctet buf s) (cur ++ [d]) rest = chunksAhead s cur (d :: rest) := by
    simp [chunksAhead]
  have hcodec : (acceptOctet buf s).codec = s.codec := rfl
  simp only [forecast, hahead, hcodec, acceptOctet_inCount, List.length_append, List.length_cons, List.length_nil,
    Nat.zero_add, BitVec.ofNat_add]
  congr 1
  case e_inCount => ring
  case e_failBase => ring

theorem forecast_giveOctet (s : State) (rest out : List Octet) (b : Octet) :
    forecast (giveOctet b s) [] rest out = forecast s [] rest (b :: out) := by
  have hahead : chunksAhead (giveOctet b s) [] rest = chunksAhead s [] rest := rfl
  have hcodec : (giveOctet b s).codec = s.codec := rfl
  simp only [forecast, hahead, hcodec, giveOctet_outCount, giveOctet_env_delivered, List.length_append,
    List.length_cons, BitVec.ofNat_add]
  congr 1
  case e_delivered => simp
  case e_outCount => ring

/-- A chunk that the codec accepts moves from what is ahead to what is on offer. -/
theorem forecast_offerChunk {s : State} {cur rest out : List Octet} (obuf : Memory)
    (hahead : chunksAhead s cur rest = cur :: chunks s.eff.toNat rest) (hout : s.codec cur = .ok out) :
    forecast (offerChunk obuf out.length s) [] rest out = forecast s cur rest [] := by
  have hafter : chunksAhead (offerChunk obuf out.length s) [] rest = chunks s.eff.toNat rest := rfl
  have hcodec : (offerChunk obuf out.length s).codec = s.codec := rfl
  simp only [forecast, hafter, hcodec, hahead, transcodeChunks, failOffset, hout, List.length_cons, BitVec.ofNat_add]
  congr 1
  case e_chunkCount => rw [offerChunk_chunkCount]; ring
  case e_failBase => simp [← BitVec.add_assoc]

/-- A chunk that the codec refuses ends the transcode with its error. -/
theorem Forecast.met_failChunk {s : State} {cur rest : List Octet} {e : ChunkError} {cs : List (List Octet)}
    (hahead : chunksAhead s cur rest = cur :: cs) (hlen : cur.length = s.cnt) (herr : s.codec cur = .error e) :
    (forecast s cur rest []).Met (failChunk e s) := by
  rw [failChunk_eq_enterError]
  simp only [Forecast.Met, forecast, hahead, transcodeChunks, failOffset, herr, hlen]
  refine ⟨by simp, by simp, rfl, rfl, rfl, ?_, rfl⟩
  split_ifs <;> simp

end Sys2Proof.Machine
end

section
/-! PROOFS. Each enabled move of the source, the adapter and the sink keeps a transcode on the course forecast for it,
and leaves one move fewer to be made (43_stream_adapter.md R122 to R129). -/

namespace Sys2Proof.Machine

section
variable {u : State} {m : Nat} {cur rest out : List Octet} (hinv : Inv u) (hbus : u.env.busQ = [])
include hinv hbus

/-! ## FILL -/

theorem onCourse_acceptOctet {d : Octet} (hfill : u.state = .fill)
    (hread : Memory.readRange u.params.bufSize u.buf 0 u.cnt = .ok cur) (hsrc : u.env.srcQ = beatsOf rest)
    (hmoves : movesLeft u cur (d :: rest) [] ≤ m + 1) :
    OnCourse (forecast u cur (d :: rest) []) m (acceptOctet (Memory.insert u.buf u.cnt d) u) := by
  obtain ⟨heof, hroom⟩ := hinv.inFill hfill
  have hread' := Memory.readRange_insert_end hread (hroom.trans_le hinv.effLeMax) d
  have hsrc' : SourceHolds (acceptOctet (Memory.insert u.buf u.cnt d) u) rest := .inl ⟨heof, hsrc⟩
  refine ⟨hbus, .inr ⟨inv_acceptOctet hinv hfill d, cur ++ [d], rest, [], ?_, forecast_acceptOctet .., ?_⟩⟩
  · by_cases hfull : u.cnt + 1 = u.eff.toNat
    · exact .process (by simp [hfull]) hread' hsrc'
    · exact .fill (by simp [hfull, hfill]) hread' hsrc'
  · simp only [movesLeft, acceptOctet_eofSeen, heof, cond_false, List.length_append, List.length_cons,
      List.length_nil] at hmoves ⊢
    omega

theorem onCourse_endOfInput (hfill : u.state = .fill)
    (hread : Memory.readRange u.params.bufSize u.buf 0 u.cnt = .ok cur) (hmoves : movesLeft u cur [] [] ≤ m + 1) :
    OnCourse (forecast u cur [] []) m (endOfInput u) := by
  obtain ⟨heof, -⟩ := hinv.inFill hfill
  by_cases hcnt : 0 < u.cnt
  · have hunder : Underway (endOfInput u) cur [] [] := .process (by simp [hcnt]) hread (.inr ⟨rfl, rfl⟩)
    exact ⟨hbus, .inr ⟨inv_endOfInput hinv hfill, cur, [], [], hunder, rfl, by simpa [movesLeft, heof] using hmoves⟩⟩
  · obtain ⟨hlen, -⟩ := Memory.readRange_ok.mp hread
    obtain rfl := List.length_eq_zero_iff.mp (hlen.trans (Nat.eq_zero_of_not_pos hcnt))
    exact ⟨hbus, .inl (Forecast.met_of_done (by simp [hcnt]) rfl rfl rfl rfl)⟩

/-! ## The end of a chunk (R128) -/

omit hinv in
theorem onCourse_endOfChunk (hafter : Inv (endOfChunk u)) (hsrc : SourceHolds u rest)
    (hmoves : movesLeft u [] rest [] ≤ m) : OnCourse (forecast u [] rest []) m (endOfChunk u) := by
  rcases hsrc with ⟨heof, hq⟩ | ⟨heof, rfl⟩
  · exact ⟨hbus, .inr ⟨hafter, [], rest, [], .fill (by simp [heof]) rfl (.inl ⟨heof, hq⟩), rfl, hmoves⟩⟩
  · exact ⟨hbus, .inl (Forecast.met_of_done (by simp [heof]) rfl rfl rfl rfl)⟩

/-! ## PROCESS -/

omit hbus in
/-- The chunk that PROC takes is the first of those ahead (R132). -/
theorem chunksAhead_of_process (hproc : u.state = .process) (hlen : cur.length = u.cnt) (hsrc : SourceHolds u rest) :
    chunksAhead u cur rest = cur :: chunks u.eff.toNat rest := by
  obtain ⟨hpos, hfull, hshort⟩ := hinv.inProcess hproc
  refine chunks_append (hpos.trans_le hinv.cntLeEff) (List.length_pos_iff.mp (by omega)) ?_
  rw [hlen]
  exact hsrc.imp (fun h => hfull h.1) fun h => ⟨hshort h.1, h.2⟩

theorem onCourse_execProc (hproc : u.state = .process)
    (hread : Memory.readRange u.params.bufSize u.buf 0 u.cnt = .ok cur) (hsrc : SourceHolds u rest)
    (hmoves : movesLeft u cur rest [] ≤ m + 1) :
    ∃ t, execProc u = .next t ∧ OnCourse (forecast u cur rest []) m t := by
  obtain ⟨hlen, -⟩ := Memory.readRange_ok.mp hread
  obtain ⟨hpos, -, -⟩ := hinv.inProcess hproc
  have hahead := chunksAhead_of_process hinv hproc hlen hsrc
  cases hcodec : u.codec cur with
  | error e =>
    exact ⟨_, execProc_of_codec_error hread hcodec, hbus, .inl (Forecast.met_failChunk hahead hlen hcodec)⟩
  | ok out =>
    have hfit := codec_fits hinv hlen hcodec
    have hout := codec_length_le hcodec
    obtain ⟨t, hstore⟩ := storeChunk_completes hfit
    have hexec := (execProc_of_codec_ok hread hcodec).trans hstore
    have hafter := inv_execProc hinv hproc hexec
    obtain ⟨obuf, hwrite, ht⟩ := storeChunk_next hstore
    have hmoves' : movesLeft (offerChunk obuf out.length u) [] rest out ≤ m := by
      simp only [movesLeft, offerChunk_eofSeen, List.length_nil] at hmoves ⊢
      omega
    refine ⟨t, hexec, ?_⟩
    rw [← forecast_offerChunk obuf hahead hcodec]
    by_cases hempty : out = []
    · subst hempty
      have hmode := mode_of_codec_nil (by omega) hcodec
      rw [if_pos ⟨hmode, rfl⟩] at ht
      subst ht
      exact onCourse_endOfChunk hbus hafter hsrc hmoves'
    · rw [if_neg (by simp [hempty])] at ht
      subst ht
      have hoffer := Memory.readRange_writeRange hwrite hfit
      exact ⟨hbus, .inr ⟨hafter, [], rest, out, .drain rfl hoffer hsrc, rfl, hmoves'⟩⟩

/-! ## DRAIN -/

theorem onCourse_execSnkAck (hdrain : u.state = .drain)
    (hread : Memory.readRange u.params.obufSize u.obuf u.optr (u.ocnt - u.optr) = .ok out) (hsrc : SourceHolds u rest)
    (hmoves : movesLeft u [] rest out ≤ m + 1) :
    ∃ t, exec .snkAck u = .next t ∧ OnCourse (forecast u [] rest out) m t := by
  have hlt := hinv.inDrain hdrain
  rw [show u.ocnt - u.optr = u.ocnt - (u.optr + 1) + 1 by omega] at hread
  obtain ⟨b, out, rfl, hb, hrest⟩ := Memory.readRange_succ_ok hread
  have hexec := execSnkAck_of_drain hdrain hb
  have hafter := inv_exec hinv hexec
  have hmoves' : movesLeft (giveOctet b u) [] rest out ≤ m := by
    simp only [movesLeft, giveOctet_eofSeen, List.length_cons] at hmoves ⊢
    omega
  refine ⟨_, hexec, ?_⟩
  rw [← forecast_giveOctet]
  by_cases hlast : u.optr + 1 = u.ocnt
  · rw [if_pos hlast] at hafter ⊢
    obtain ⟨hlen, -⟩ := Memory.readRange_ok.mp hrest
    obtain rfl := List.length_eq_zero_iff.mp (hlen.trans (by omega))
    exact onCourse_endOfChunk hbus hafter hsrc hmoves'
  · rw [if_neg hlast] at hafter ⊢
    exact ⟨hbus, .inr ⟨hafter, [], rest, out, .drain hdrain hrest hsrc, rfl, hmoves'⟩⟩

end

end Sys2Proof.Machine
end

section
/-! PROOFS. Fair runs: in each round the agent whose move is enabled gets its turn, and the other turns wait, so that
the forecast is met when no move is left (43_stream_adapter.md R122, R138; 70_reset_and_hazards.md R192). -/

namespace Sys2Proof.Machine

/-! ## One turn -/

/-- The agent whose move a transcode waits for (R122). -/
def mover : AdapterState → Option Agent
  | .fill => some .source
  | .process => some .adapter
  | .drain => some .sink
  | .idle | .done | .error => none

theorem mover_eq_some {st : AdapterState} {a : Agent} (h : mover st = some a) :
    a = .source ∨ a = .adapter ∨ a = .sink := by
  cases st <;> cases h <;> simp

/-- Any other agent's turn passes. -/
theorem step_serve_wait {s : State} {a : Agent} (hbus : s.env.busQ = []) (ha : a ≠ .resetLine ∧ a ≠ .groupSelect)
    (hwait : mover s.state ≠ some a) :
    step (serve a s) = .next { s with env := { (serve a s).env with turns := [] } } := by
  refine disabledAgentWaits (serve a s) ?_
  cases a with
  | host => exact .inr (.inr (.inl ⟨rfl, hbus⟩))
  | source => exact .inl ⟨rfl, fun hfill : s.state = .fill => hwait (by rw [hfill]; rfl)⟩
  | adapter => exact .inr (.inl ⟨rfl, fun hproc : s.state = .process => hwait (by rw [hproc]; rfl)⟩)
  | sink =>
    have hdrain : s.state ≠ .drain := fun h => hwait (by rw [h]; rfl)
    exact .inr (.inr (.inr (.inr (.inl ⟨rfl, if_neg hdrain⟩))))
  | resetLine => exact absurd rfl ha.1
  | groupSelect => exact absurd rfl ha.2

/-- The state in which the awaited agent makes its move: the turn and the response are used up, `beats` are still at the
source. -/
def moving (beats : List (BitVec 10)) (s : State) : State :=
  { s with env := { s.env with turns := [], srcQ := beats, snkQ := [] } }

theorem inv_moving {s : State} (h : Inv s) (beats : List (BitVec 10)) : Inv (moving beats s) := h.frame ..

theorem step_serve_source {s : State} {w : BitVec 10} {beats : List (BitVec 10)} {i : Instr} (hfill : s.state = .fill)
    (hq : s.env.srcQ = w :: beats) (hdecode : decode (.src w) = .ok i) :
    step (serve .source s) = exec i (moving beats s) := by
  obtain ⟨-, hsource, -, -⟩ := stepRunsDecodedWord
  rw [hsource (serve .source s) [] w beats i hfill rfl hq hdecode]
  simp [serve, moving, hfill]

theorem step_serve_adapter {s : State} (hproc : s.state = .process) :
    step (serve .adapter s) = execProc (moving s.env.srcQ s) := by
  rw [step_of_proc (s := serve .adapter s) rfl hproc]
  simp [serve, moving, dropTurn, hproc]

theorem step_serve_sink {s : State} (hdrain : s.state = .drain) :
    step (serve .sink s) = exec .snkAck (moving s.env.srcQ s) := by
  obtain ⟨-, -, hsink, -⟩ := stepRunsDecodedWord
  exact hsink (serve .sink s) [] _ [] _ rfl (if_pos hdrain) (decodeOfEncode .snkAck rfl)

theorem Forecast.Met.mover_eq_none {F : Forecast} {s : State} (h : F.Met s) : mover s.state = none := by
  obtain ⟨-, -, hend⟩ := h
  split at hend
  · rw [hend.1]; rfl
  · rw [hend.1]; rfl

/-- The turn of the agent that a transcode waits for brings it one move on. -/
theorem OnCourse.move {F : Forecast} {m : Nat} {s : State} {a : Agent} (h : OnCourse F (m + 1) s)
    (ha : mover s.state = some a) : ∃ t, step (serve a s) = .next t ∧ OnCourse F m t := by
  obtain ⟨hbus, hmet | ⟨hinv, cur, rest, out, hunder, rfl, hmoves⟩⟩ := h
  · simp [hmet.mover_eq_none] at ha
  have hinv' := inv_moving hinv
  cases hunder with
  | fill hstate hread hsrc =>
    obtain rfl : .source = a := by simpa [hstate, mover] using ha
    obtain ⟨heof, hroom⟩ := hinv.inFill hstate
    obtain ⟨-, hq⟩ | ⟨heof', -⟩ := hsrc
    · cases rest with
      | nil =>
        refine ⟨_, ?eof, onCourse_endOfInput (u := moving [] s) (hinv' []) hbus hstate hread hmoves⟩
        rw [step_serve_source hstate hq (decodeOfEncode (.srcEof 0#8) rfl),
          execSrcEof_of_fill 0#8 (s := moving [] s) hstate]
      | cons d rest =>
        refine ⟨_, ?data,
          onCourse_acceptOctet (u := moving (beatsOf rest) s) (hinv' _) hbus hstate hread rfl hmoves⟩
        rw [step_serve_source (beats := beatsOf rest) hstate hq (decodeOfEncode (.srcData d) rfl),
          execSrcData_of_fill d (s := moving (beatsOf rest) s) hstate (hroom.trans_le hinv.effLeMax)]
    · simp [heof] at heof'
  | process hstate hread hsrc =>
    obtain rfl : .adapter = a := by simpa [hstate, mover] using ha
    rw [step_serve_adapter hstate]
    exact onCourse_execProc (hinv' _) hbus hstate hread hsrc hmoves
  | drain hstate hread hsrc =>
    obtain rfl : .sink = a := by simpa [hstate, mover] using ha
    rw [step_serve_sink hstate]
    exact onCourse_execSnkAck (hinv' _) hbus hstate hread hsrc hmoves

/-- A running transcode has a move left. -/
theorem movesLeft_pos {s : State} {cur rest out : List Octet} (hinv : Inv s) (h : Underway s cur rest out) :
    0 < movesLeft s cur rest out := by
  unfold movesLeft
  cases h with
  | fill hstate hread hsrc => simp [(hinv.inFill hstate).1]
  | process hstate hread hsrc =>
    obtain ⟨hlen, -⟩ := Memory.readRange_ok.mp hread
    obtain ⟨hpos, -, -⟩ := hinv.inProcess hstate
    omega
  | drain hstate hread hsrc =>
    obtain ⟨hlen, -⟩ := Memory.readRange_ok.mp hread
    have hlt := hinv.inDrain hstate
    omega

theorem OnCourse.met_of_no_move {F : Forecast} {s : State} (h : OnCourse F 0 s) : F.Met s := by
  obtain ⟨-, hmet | ⟨hinv, cur, rest, out, hunder, -, hmoves⟩⟩ := h
  · exact hmet
  · exact absurd (movesLeft_pos hinv hunder) (by omega)

/-- A transcode that waits for no agent has ended. -/
theorem OnCourse.met_of_no_mover {F : Forecast} {m : Nat} {s : State} (h : OnCourse F m s)
    (hnone : mover s.state = none) : F.Met s := by
  obtain ⟨-, hmet | ⟨-, cur, rest, out, hunder, -, -⟩⟩ := h
  · exact hmet
  · cases hunder with
    | fill hstate | process hstate | drain hstate => simp [hstate, mover] at hnone

/-! ## Rounds -/

theorem serveRun_cons {a : Agent} {s t : State} (h : step (serve a s) = .next t) (r : List Agent) :
    serveRun (a :: r) s = serveRun r t := by
  simp only [serveRun, h]

theorem serveRun_append {r : List Agent} {s t : State} (h : serveRun r s = .next t) (r' : List Agent) :
    serveRun (r ++ r') s = serveRun r' t := by
  induction r generalizing s with
  | nil => cases h; rfl
  | cons a r ih =>
    rw [serveRun] at h
    split at h
    next u hu => rw [List.cons_append, serveRun_cons hu, ih h]
    · cases h
    · cases h

/-- No turn leads off course. -/
theorem OnCourse.run {F : Forecast} {m : Nat} {s : State} {r : List Agent} (h : OnCourse F m s)
    (hr : ∀ a ∈ r, a ≠ .resetLine ∧ a ≠ .groupSelect) : ∃ t, serveRun r s = .next t ∧ OnCourse F m t := by
  induction r generalizing s with
  | nil => exact ⟨s, rfl, h⟩
  | cons a r ih =>
    obtain ⟨ha, hr⟩ := List.forall_mem_cons.mp hr
    by_cases hmove : mover s.state = some a
    · obtain ⟨t, hstep, ht⟩ := (h.mono m.le_succ).move hmove
      rw [serveRun_cons hstep]
      exact ih ht hr
    · rw [serveRun_cons (step_serve_wait h.1 ha hmove)]
      exact ih (h.withEnv ..) hr

/-- A round in which the awaited agent gets a turn leaves one move fewer. -/
theorem OnCourse.round {F : Forecast} {m : Nat} {s : State} {r : List Agent} (h : OnCourse F (m + 1) s)
    (hr : ∀ a ∈ r, a ≠ .resetLine ∧ a ≠ .groupSelect) (hfair : ∀ a, mover s.state = some a → a ∈ r) :
    ∃ t, serveRun r s = .next t ∧ OnCourse F m t := by
  induction r generalizing s with
  | nil =>
    have hnone : mover s.state = none := Option.eq_none_iff_forall_ne_some.mpr fun a ha => List.not_mem_nil (hfair a ha)
    exact ⟨s, rfl, h.1, .inl (h.met_of_no_mover hnone)⟩
  | cons a r ih =>
    obtain ⟨ha, hr⟩ := List.forall_mem_cons.mp hr
    by_cases hmove : mover s.state = some a
    · obtain ⟨t, hstep, ht⟩ := h.move hmove
      rw [serveRun_cons hstep]
      exact ht.run hr
    · rw [serveRun_cons (step_serve_wait h.1 ha hmove)]
      refine ih (h.withEnv ..) hr fun b hb => ?_
      exact (List.mem_cons.mp (hfair b hb)).resolve_left fun heq => hmove (heq ▸ hb)

theorem OnCourse.rounds {F : Forecast} {s : State} {rounds : List (List Agent)} (h : OnCourse F rounds.length s)
    (hfair : ∀ r ∈ rounds, .source ∈ r ∧ .sink ∈ r ∧ .adapter ∈ r ∧
      ∀ a ∈ r, a ≠ .resetLine ∧ a ≠ .groupSelect) :
    ∃ t, serveRun rounds.flatten s = .next t ∧ F.Met t := by
  induction rounds generalizing s with
  | nil => exact ⟨s, rfl, h.met_of_no_move⟩
  | cons r rounds ih =>
    obtain ⟨⟨hsource, hsink, hadapter, hr⟩, hfair⟩ := List.forall_mem_cons.mp hfair
    obtain ⟨t, hrun, ht⟩ := h.round hr fun a ha => by
      obtain rfl | rfl | rfl := mover_eq_some ha
      · exact hsource
      · exact hadapter
      · exact hsink
    rw [List.flatten_cons, serveRun_append hrun]
    exact ih ht hfair

/-! ## From START to the end -/

/-- A transcode just started has at most six moves for each octet of its input, and one for the end of input. -/
theorem onCourse_of_justStarted {s : State} {S : List Octet} (h : JustStarted S s) :
    OnCourse (forecast s [] S []) (6 * S.length + 1) s := by
  obtain ⟨heof, -⟩ := h.inv.inFill h.filling
  have hread : Memory.readRange s.params.bufSize s.buf 0 s.cnt = .ok [] := by rw [h.empty]; rfl
  refine ⟨h.quiet, .inr ⟨h.inv, [], S, [], .fill h.filling hread (.inl ⟨heof, h.source⟩), rfl, ?_⟩⟩
  simp only [movesLeft, heof, cond_false, List.length_nil]
  omega

/-- Settles O47: the forecast at START is Transcode's answer, and it is met when each round has taken one move off. -/
theorem fairRunMeetsTranscode : Obligations.FairRunMeetsTranscode := by
  rintro s S agents hstart ⟨rounds, rfl, hcount, hfair⟩
  have hcourse := onCourse_of_justStarted hstart
  rw [← hcount] at hcourse
  obtain ⟨t, hrun, hdelivered, hout, hend⟩ := hcourse.rounds hfair
  obtain ⟨hin0, hout0, hchunk0⟩ := hstart.counters
  have hanswer : transcode s.fwd s.rev s.mode s.eff.toNat S = transcodeChunks s.codec (chunksAhead s [] S) := rfl
  refine ⟨t, hrun, hdelivered, ?outCount, ?ending⟩
  case outCount => rw [hout, forecast, hout0, BitVec.zero_add, hanswer, List.nil_append]
  case ending =>
    rw [hanswer]
    simp only [forecast, hin0, hchunk0, BitVec.zero_add] at hend
    cases herr : (transcodeChunks s.codec (chunksAhead s [] S)).2 with
    | none =>
      simp only [herr] at hend
      exact hend
    | some e =>
      simp only [herr] at hend
      obtain ⟨hstate, hchar, hcode, hpos, hlen⟩ := hend
      refine ⟨hstate, hchar, ?code, ?pos, hlen⟩
      case code =>
        rw [hcode]
        cases e.cause <;> rfl
      case pos =>
        rw [hpos, List.length_nil, BitVec.sub_zero, BitVec.zero_add, ← BitVec.ofNat_add]
        rfl

end Sys2Proof.Machine
end

section
/-! PROOFS. The three commands, and the host's reads and writes of the register window (44_host_interface.md R143 to
R154). -/

namespace Sys2Proof.Machine

/-! ## What a command comes to in each STATE -/

theorem tryCommand_of_accepting (effect : State → State) {s : State}
    (h : s.state = .idle ∨ s.state = .done ∨ s.state = .error) : tryCommand effect s = effect s :=
  if_pos ((acceptsCommand_iff s).mpr h)

theorem tryCommand_of_busy (effect : State → State) {s : State}
    (h : s.state = .fill ∨ s.state = .process ∨ s.state = .drain) : tryCommand effect s = rejectCommand s :=
  if_neg (Bool.eq_false_iff.mp ((acceptsCommand_eq_false_iff s).mpr h))

/-- No word written to CMD is accepted while a transcode runs. -/
theorem command_of_busy (w : Word) {s : State} (h : s.state = .fill ∨ s.state = .process ∨ s.state = .drain) :
    command w s = rejectCommand s := by
  unfold command
  split_ifs
  · exact tryCommand_of_busy _ h
  · exact tryCommand_of_busy _ h
  · exact tryCommand_of_busy _ h
  · rfl

/-- A write of a word that decodes to a command is that command (R145). -/
theorem exec_regWrite_cmd_of_decodeCmd {w : Word} {i : Instr} (h : decodeCmd w = some i) (s : State) :
    exec (.regWrite .cmd w) s = exec i s := by
  obtain ⟨rfl, rfl⟩ | ⟨rfl, rfl⟩ | ⟨rfl, rfl⟩ := decodeCmd_eq_some_iff.mp h <;> rfl

theorem irq_eq_false {s : State} (hdone : s.state ≠ .done) (herror : s.state ≠ .error) : irq s = false := by
  simp [irq, hdone, herror]

/-! ## The commands -/

/-- Settles O10: the command is accepted, and starts a transcode in Encode. -/
theorem startEncodeBegins : Obligations.StartEncodeBegins := fun s haccepting =>
  ⟨startTranscode .encode s, congrArg _ (tryCommand_of_accepting _ haccepting), irq_eq_false nofun nofun, rfl⟩

/-- Settles O11: the command is accepted, and starts a transcode in Decode. -/
theorem startDecodeBegins : Obligations.StartDecodeBegins := fun s haccepting =>
  ⟨startTranscode .decode s, congrArg _ (tryCommand_of_accepting _ haccepting), irq_eq_false nofun nofun, rfl⟩

/-- Settles O12: the command is accepted, and leaves IDLE with the error registers 0. -/
theorem clearReturnsToIdle : Obligations.ClearReturnsToIdle := fun s haccepting =>
  ⟨toIdle s, congrArg _ (tryCommand_of_accepting _ haccepting), irq_eq_false nofun nofun, rfl⟩

/-- Settles O13: a word that is no command, and any word while the block is busy, comes to a rejection. -/
theorem rejectedCommandSetsFlagOnly : Obligations.RejectedCommandSetsFlagOnly := by
  refine ⟨fun s w h1 h2 h3 => ?noCommand, fun s w hbusy => ?busy⟩
  case noCommand => exact congrArg _ (command_of_noCommand s (decodeCmd_eq_none.mpr ⟨h1, h2, h3⟩))
  case busy =>
    exact ⟨congrArg _ (tryCommand_of_busy _ hbusy), congrArg _ (tryCommand_of_busy _ hbusy),
      congrArg _ (tryCommand_of_busy _ hbusy), congrArg _ (command_of_busy w hbusy)⟩

/-- Settles O14: the three words decode to the three commands. -/
theorem cmdWriteIsTheCommand : Obligations.CmdWriteIsTheCommand := fun s =>
  ⟨exec_regWrite_cmd_of_decodeCmd rfl s, exec_regWrite_cmd_of_decodeCmd rfl s, exec_regWrite_cmd_of_decodeCmd rfl s⟩

/-! ## Register accesses -/

theorem modeBit_eq_beq (m : Mode) : modeBit m = (m == .decode) := by
  cases m <;> rfl

theorem busy_eq_beq (s : State) : busy s = (s.state == .fill || s.state == .process || s.state == .drain) := by
  unfold busy
  cases s.state <;> rfl

theorem regValue_ctrl (s : State) : regValue s .ctrl = if s.ie then 1#32 else 0#32 := by
  unfold regValue
  cases s.ie <;> rfl

/-- Settles O16: CTRL is IE as a word, STATUS is its flags tested against STATE and MODE, and every other register reads
the field that holds it. -/
theorem regReadAnswersValue : Obligations.RegReadAnswersValue := by
  intro s w r
  refine congrArg (fun v => Host.Outcome.next (answerRead v s)) ?_
  cases r with
  | ctrl => exact regValue_ctrl s
  | status =>
    simp only [regValue, statusWord, modeBit_eq_beq, busy_eq_beq]
    rfl
  | _ => rfl

/-- A 1 written to bit 8 of STATUS clears CMD_REJ (R151). -/
theorem writeReg_status (w : Word) (s : State) :
    writeReg .status w s = { s with cmdRej := s.cmdRej && !w.getLsbD 8 } := by
  rw [writeReg]
  cases w.getLsbD 8
  · simp
  · simp

/-- Settles O18: each of the four writes stores one field; for STATUS it is the flag with bit 8 taken off. -/
theorem regWriteConfiguration : Obligations.RegWriteConfiguration := fun s w =>
  ⟨rfl, congrArg _ (writeReg_status w s), rfl, rfl⟩

end Sys2Proof.Machine
end

section
/-! PROOFS. How ERROR is entered, and what takes the interrupt away (60_exceptions.md R156, R157, R163, R168). -/

namespace Sys2Proof.Machine

/-! ## Entering ERROR -/

/-- No host access takes the block into ERROR. -/
theorem exec_host_state_ne_error {b : BitVec 41} {s t : State} {i : Instr} (hs : s.state ≠ .error)
    (hdecode : decode (.bus b) = .ok i) (hexec : exec i s = .next t) : t.state ≠ .error := by
  obtain ⟨r, v, rfl⟩ | hw := decodeBus_ok hdecode
  · cases hexec
    exact hs
  obtain ⟨m, -, -, rfl⟩ | ⟨-, -, rfl⟩ | ⟨-, -, -, rfl⟩ | ⟨r, hr, -, rfl⟩ := hw.next_cases hexec
  · exact nofun
  · exact nofun
  · exact hs
  · obtain ⟨ie, rej, qe, qd, he⟩ := writeReg_of_ne_cmd hr (b.extractLsb' 0 32) s
    rw [he]
    exact hs

/-- Of the source's beats only SRC_ERR takes an error, IO_READ (R161). -/
theorem exec_source_into_error {s t : State} {i : Instr} (hagent : instrAgent i = .source) (hs : s.state ≠ .error)
    (hexec : exec i s = .next t) (herr : t.state = .error) : t = enterError .ioRead 0#8 s.inCount 0#32 s := by
  cases i with
  | srcData d =>
    obtain ⟨-, -, rfl⟩ | ⟨-, rfl⟩ := execSrcData_next hexec
    · rw [acceptOctet_state] at herr
      split at herr
      · cases herr
      · exact absurd herr hs
    · exact absurd herr hs
  | srcEof d =>
    simp only [exec, execSrcEof] at hexec
    split at hexec <;> cases hexec
    · rw [endOfInput_state] at herr
      split at herr <;> cases herr
    · exact absurd herr hs
  | srcErr d =>
    simp only [exec, execSrcErr] at hexec
    split at hexec <;> cases hexec
    · rfl
    · exact absurd herr hs
  | _ => cases hagent

/-- Of the sink's responses only SNK_ERR takes an error, IO_WRITE (R162). -/
theorem exec_sink_into_error {s t : State} {i : Instr} (hagent : instrAgent i = .sink) (hs : s.state ≠ .error)
    (hexec : exec i s = .next t) (herr : t.state = .error) : t = enterError .ioWrite 0#8 s.outCount 0#32 s := by
  cases i with
  | snkAck =>
    obtain ⟨-, b, -, -, rfl⟩ := execSnkAck_next hexec
    split at herr
    · rw [endOfChunk_state] at herr
      split at herr <;> cases herr
    · exact absurd herr hs
  | snkErr =>
    simp only [exec, execSnkErr] at hexec
    split at hexec <;> cases hexec
    rfl
  | _ => cases hagent

/-- Storing a chunk's output takes no error. -/
theorem storeChunk_state_ne_error {s t : State} {out : List Octet} (h : storeChunk out s = .next t) :
    t.state ≠ .error := by
  obtain ⟨m, -, rfl⟩ := storeChunk_next h
  split
  · rw [endOfChunk_state]
    split <;> exact nofun
  · exact nofun

/-- PROC takes an error in Decode only, for a chunk that does not decode (R127). -/
theorem execProc_into_error {s t : State} (hexec : execProc s = .next t) (herr : t.state = .error) :
    s.mode = .decode ∧ ∃ cause char pos len, t = enterError cause char pos len s := by
  obtain ⟨chunk, -, ⟨-, hstore⟩ | ⟨-, out, -, hstore⟩ | ⟨hmode, e, -, rfl⟩⟩ := execProc_next hexec
  · exact absurd herr (storeChunk_state_ne_error hstore)
  · exact absurd herr (storeChunk_state_ne_error hstore)
  · exact ⟨hmode, _, _, _, _, failChunk_eq_enterError e s⟩

/-- Taking a word off its port gives nothing out. -/
theorem takeWord_outputs (w : PortWord) (s : State) : ∃ e : Env, takeWord w s = { s with env := e } ∧
    e.delivered = s.env.delivered ∧ e.rdata = s.env.rdata ∧ e.gopOut = s.env.gopOut := by
  cases w <;> exact ⟨_, rfl, rfl, rfl, rfl⟩

/-- A step into ERROR is TAKING AN ERROR (R157) in a state that differs in the environment's queues alone; in Encode its
cause is one of the two at the ports. -/
theorem step_into_error {s t : State} (hs : s.state ≠ .error) (hnext : step s = .next t) (herr : t.state = .error) :
    ∃ (e : Env) (cause : ErrCause) (char : Octet) (pos len : Word),
      (e.delivered = s.env.delivered ∧ e.rdata = s.env.rdata ∧ e.gopOut = s.env.gopOut) ∧
      (s.mode = .encode → cause = .ioRead ∨ cause = .ioWrite) ∧
      t = enterError cause char pos len { s with env := e } := by
  cases step_cases s with
  | waits hstep => cases hstep.symm.trans hnext; exact absurd herr hs
  | resets _ hstep => cases hstep.symm.trans hnext; cases herr
  | processes _ _ hstep =>
    obtain ⟨hmode, cause, char, pos, len, rfl⟩ := execProc_into_error (hstep.symm.trans hnext) herr
    have hnotEncode : s.mode ≠ .encode := ne_of_eq_of_ne hmode nofun
    exact ⟨(dropTurn s).env, cause, char, pos, len, ⟨rfl, rfl, rfl⟩, (absurd · hnotEncode), rfl⟩
  | refuses _ _ _ _ hstep => cases hstep.symm.trans hnext
  | runs w i hturn hdecode hstep =>
    have hexec := hstep.symm.trans hnext
    obtain ⟨e, he, houtputs⟩ := takeWord_outputs w s
    rw [he] at hexec
    have hagent := decode_ok_agent hdecode
    cases w with
    | bus b => exact absurd herr (exec_host_state_ne_error (by exact hs) hdecode hexec)
    | src b => exact ⟨e, _, _, _, _, houtputs, fun _ => .inl rfl, exec_source_into_error hagent hs hexec herr⟩
    | snk b => exact ⟨e, _, _, _, _, houtputs, fun _ => .inr rfl, exec_sink_into_error hagent hs hexec herr⟩
    | gop sel operand => exact absurd ((exec_groupSelect_state hagent hexec).symm.trans herr) hs

theorem errCodeOf_bounds (cause : ErrCause) : 1 ≤ (errCodeOf cause).toNat ∧ (errCodeOf cause).toNat ≤ 5 := by
  cases cause <;> decide

/-- Settles O55: a step into ERROR takes an error, and each cause has one of the five codes. -/
theorem errorEntryFrame : Obligations.ErrorEntryFrame := by
  intro s t hs hnext herr
  obtain ⟨e, cause, char, pos, len, ⟨hdelivered, hrdata, hgop⟩, -, rfl⟩ := step_into_error hs hnext herr
  obtain ⟨hlow, hhigh⟩ := errCodeOf_bounds cause
  exact ⟨e, errCodeOf cause, char, pos, len, hlow, hhigh, hdelivered, hrdata, hgop, rfl⟩

/-- Settles O56: the other three causes are taken by PROC, in Decode. -/
theorem encodeNeverInvalidInput : Obligations.EncodeNeverInvalidInput := by
  intro s t hmode hs hnext herr
  obtain ⟨e, cause, char, pos, len, -, hport, rfl⟩ := step_into_error hs hnext herr
  obtain rfl | rfl := hport hmode
  · exact .inl rfl
  · exact .inr rfl

/-! ## The interrupt -/

/-- The interrupt depends on IE and STATE alone (R167). -/
theorem irq_congr {s t : State} (hie : t.ie = s.ie) (hstate : t.state = s.state) : irq t = irq s := by
  rw [irq, irq, hie, hstate]

/-- A write to a register other than CMD takes the interrupt away only as a 0 written to CTRL.IE. -/
theorem writeReg_irq_falls {r : Reg} (hr : r ≠ .cmd) {v : Word} {s : State} (hhigh : irq s = true)
    (hlow : irq (writeReg r v s) = false) : r = .ctrl ∧ v.getLsbD 0 = false := by
  have hchanged : irq (writeReg r v s) ≠ irq s := by simp [hhigh, hlow]
  cases r with
  | cmd => exact absurd rfl hr
  | ctrl =>
    refine ⟨rfl, Bool.eq_false_iff.mpr fun hbit => ?_⟩
    exact hchanged (irq_congr (hbit.trans ((irq_iff s).mp hhigh).1.symm) rfl)
  | status =>
    rw [writeReg_status] at hchanged
    exact absurd rfl hchanged
  | _ => exact absurd rfl hchanged

/-- The host takes the interrupt away by START, CLEAR or a write of 0 to CTRL.IE. -/
theorem exec_host_irq_falls {b : BitVec 41} {s t : State} {i : Instr} (hdecode : decode (.bus b) = .ok i)
    (hexec : exec i s = .next t) (hhigh : irq s = true) (hlow : irq t = false) :
    i = .startEncode ∨ i = .startDecode ∨ i = .clear ∨ ∃ v, v.getLsbD 0 = false ∧ i = .regWrite .ctrl v := by
  have hchanged : irq t ≠ irq s := by simp [hhigh, hlow]
  obtain ⟨r, v, rfl⟩ | hw := decodeBus_ok hdecode
  · cases hexec
    exact absurd rfl hchanged
  obtain ⟨m, hi, -, -⟩ | ⟨hi, -, -⟩ | ⟨-, -, -, rfl⟩ | ⟨r, hr, hi, rfl⟩ := hw.next_cases hexec
  · exact hi.imp_right .inl
  · exact .inr (.inr (.inl hi))
  · exact absurd rfl hchanged
  · obtain ⟨rfl, hbit⟩ := writeReg_irq_falls hr hhigh hlow
    exact .inr (.inr (.inr ⟨_, hbit, hi⟩))

theorem exec_groupSelect_irq {s t : State} {i : Instr} (hagent : instrAgent i = .groupSelect)
    (hexec : exec i s = .next t) : irq t = irq s := by
  cases i with
  | enc3 | enc2 | enc1 | dec0 | dec1 | dec2 => cases hexec; rfl
  | _ => cases hagent

/-- Settles O58: the interrupt is high in DONE and ERROR only, where of the agents other than reset the host alone can
change IE or STATE. -/
theorem interruptClearedOnlyBy : Obligations.InterruptClearedOnlyBy := by
  intro s t hhigh hnext hlow
  have hchanged : irq t ≠ irq s := by simp [hhigh, hlow]
  obtain ⟨hquiet, -⟩ := doneAndErrorAreQuiescent s t ((irq_iff s).mp hhigh).2 hnext
  have hnotQuiet : ¬ (nextAgent s = .source ∨ nextAgent s = .sink ∨ nextAgent s = .adapter) := fun hturn =>
    hchanged (by rw [hquiet hturn]; rfl)
  cases step_cases s with
  | waits hstep => cases hstep.symm.trans hnext; exact absurd rfl hchanged
  | resets hturn _ => exact .inl hturn
  | processes hturn _ _ => exact absurd (.inr (.inr hturn)) hnotQuiet
  | refuses _ _ _ _ hstep => cases hstep.symm.trans hnext
  | runs w i hturn hdecode hstep =>
    have hexec := hstep.symm.trans hnext
    cases w with
    | src b => exact absurd (.inl hturn.1) hnotQuiet
    | snk b => exact absurd (.inr (.inl hturn.1)) hnotQuiet
    | gop sel operand => exact absurd (exec_groupSelect_irq (decode_ok_agent hdecode) hexec) hchanged
    | bus b =>
      refine .inr ⟨hturn.1, b, hturn.2, ?_⟩
      obtain rfl | rfl | rfl | ⟨v, hbit, rfl⟩ := exec_host_irq_falls hdecode hexec hhigh hlow
      · exact .inl hdecode
      · exact .inr (.inl hdecode)
      · exact .inr (.inr (.inl hdecode))
      · exact .inr (.inr (.inr ⟨v, hbit, hdecode⟩))

end Sys2Proof.Machine
end
